-- ==== Sys2Proof/Word.lean ====
section
/-! DEFINITION. The word types and the names of the programmer's model (spec/00_scope.md R11, R23;
spec/10_state.md R30, R35). Bit-field and byte-order helpers are in Machine/Bits.lean. -/

namespace Sys2Proof

/-- An 8-bit register or a byte of memory (R11). -/
abbrev Byte := BitVec 8

/-- A 16-bit pair, SP, pc or an address (R11). -/
abbrev Word := BitVec 16

/-- The seven registers an 8-bit operand field can name (R23, `reg8` with code ≠ 6). F is no operand (R30). -/
inductive Reg8 where
  | b | c | d | e | h | l | a
  deriving DecidableEq, Repr

/-- An 8-bit operand: a register, or the byte at x[HL] (R23, code 6). -/
inductive Opnd8 where
  | reg (r : Reg8)
  | atHl
  deriving DecidableEq, Repr

/-- The second operand of an 8-bit ALU instruction: a field operand or an immediate byte (R182). -/
inductive AluSrc where
  | opnd (o : Opnd8)
  | imm (n : Byte)
  deriving DecidableEq, Repr

/-- `reg16sp` (R23): the pairs of LD rr,nn, INC rr, DEC rr and ADD HL,rr. -/
inductive PairSp where
  | bc | de | hl | sp
  deriving DecidableEq, Repr

/-- `reg16af` (R23): the pairs of PUSH and POP. -/
inductive PairAf where
  | bc | de | hl | af
  deriving DecidableEq, Repr

/-- The four conditions (R23, R280). -/
inductive Cond where
  | nz | z | nc | c
  deriving DecidableEq, Repr

/-- The four flags of F (R35). -/
inductive Flag where
  | z | n | h | c
  deriving DecidableEq, Repr

/-- The 8-bit ALU operations, in the order of the selector field y (R182). -/
inductive AluOp where
  | add | adc | sub | sbc | and | xor | or | cp
  deriving DecidableEq, Repr

/-- The extended shifts and rotates, in the order of the selector field y (R115). -/
inductive ShiftOp where
  | rlc | rrc | rl | rr | sla | sra | swap | srl
  deriving DecidableEq, Repr

end Sys2Proof
end

