-- ==== Sys2Proof/Machine/Bits.lean ====
section
/-! DEFINITION. Bit-field, extension and byte-order helpers (spec/00_scope.md R17, R20;
spec/30_encoding.md R110). -/

namespace Sys2Proof

/-- `v[15:8]` (R17). -/
def hiByte (w : Word) : Byte := w.extractLsb' 8 8

/-- `v[7:0]` (R17). -/
def loByte (w : Word) : Byte := w.extractLsb' 0 8

/-- `hi:lo`, the first operand in the upper bits (R17). -/
def word (hi lo : Byte) : Word := hi ++ lo

/-- `sext16` (R20): two's complement, widened. -/
def sext16 (b : Byte) : Word := b.signExtend 16

/-- `zext16` (R20). -/
def zext16 (b : Byte) : Word := b.setWidth 16

/-- A Boolean as a bit of a byte (R18: true is 1, false is 0). -/
def bit8 (b : Bool) : Byte := if b then 1#8 else 0#8

/-- x, bits 7–6 of an opcode byte (R110). -/
def xField (op : Byte) : BitVec 2 := op.extractLsb' 6 2

/-- y, bits 5–3 of an opcode byte (R110). -/
def yField (op : Byte) : BitVec 3 := op.extractLsb' 3 3

/-- z, bits 2–0 of an opcode byte (R110). -/
def zField (op : Byte) : BitVec 3 := op.extractLsb' 0 3

/-- p, bits 5–4, the register-pair field (R110). -/
def pField (op : Byte) : BitVec 2 := op.extractLsb' 4 2

/-- q, bit 3 (R110). -/
def qField (op : Byte) : Bool := op.getLsbD 3

/-- cc, bits 4–3, the condition field (R110, R280). -/
def ccField (op : Byte) : BitVec 2 := op.extractLsb' 3 2

end Sys2Proof
end

