-- ==== Sys2Proof/Config.lean ====
section
/-! DEFINITION. What an implementation fixes: the parameters of spec/00_scope.md R13 to R16, the
region bounds (R12; spec/20_memory.md R61) and the reset constants (spec/10_state.md R48). The spec
leaves no value open in a run that goes on (spec/93_implementation_defined.md, end of part 1), so
there is no free value here. -/

namespace Sys2Proof

/-- Parameter `IMPL` (R13): which opcodes the engine executes. -/
inductive Impl where
  | doc | full
  deriving DecidableEq, Repr

/-- The three values of the opcode table's `preset` column: `doc` executes under both values of
`IMPL`, `full` under `FULL` only, `refused` under neither. -/
inductive Preset where
  | doc | full | refused
  deriving DecidableEq, Repr

/-- Parameter `OVERLAY_POINT` (R15): when a step tests pc against 0x0100. -/
inductive OverlayPoint where
  | atStepStart | afterOpcodeFetch
  deriving DecidableEq, Repr

/-- Parameter `INC16_FLAGS` (R16): whether INC BC, INC DE and INC HL write flags. -/
inductive Inc16Flags where
  | doc | none
  deriving DecidableEq, Repr

/-- The parameters a running core consults. They are configuration (spec/10_state.md, introduction);
the state carries their values and no step changes them (log 1). -/
structure Params where
  impl : Impl
  overlayPoint : OverlayPoint
  inc16Flags : Inc16Flags
  deriving DecidableEq, Repr

/-- The spec's default of every parameter (R13, R15, R16). -/
def Params.specDefault : Params :=
  { impl := .doc, overlayPoint := .atStepStart, inc16Flags := .doc }

/-- The parameters of `State.reset`: the spec's defaults, but `IMPL = FULL`, so that every row of
the opcode table that some preset executes executes. DESIGN CHOICE, unsafe (log 2). -/
def Params.whole : Params := { Params.specDefault with impl := .full }

/-- Parameter `REG_INIT` (R14): the power-on values of the eight registers. -/
structure RegInit where
  a : Byte
  f : Byte
  b : Byte
  c : Byte
  d : Byte
  e : Byte
  h : Byte
  l : Byte
  deriving DecidableEq, Repr

/-- `REG_INIT` of `State.reset`: all zero. The spec leaves it OPEN. DESIGN CHOICE, unsafe (log 3). -/
def RegInit.zero : RegInit :=
  { a := 0#8, f := 0#8, b := 0#8, c := 0#8, d := 0#8, e := 0#8, h := 0#8, l := 0#8 }

namespace Config

/-- SP after construction (R48). -/
def spInit : Word := 0xFFFE#16

/-- The entry point with a boot image (R381). -/
def bootEntry : Word := 0x0000#16

/-- The entry point without a boot image, and the address whose reaching switches the overlay off
(R381, R100). -/
def cartEntry : Word := 0x0100#16

/-- The size of video RAM (R12). -/
def vramSize : Nat := 0x2000

/-- The size of the I/O region (R12). -/
def ioSize : Nat := 0x80

/-- The size of high RAM (R12). -/
def hramSize : Nat := 0x7F

end Config
end Sys2Proof
end

