-- ==== Sys2Proof/Machine/State.lean ====
section
/-! DEFINITION. The state of the CORE as plain data: the Register File, the Address Space's buffers
and latch, and the run status (spec/10_state.md R30 to R48), the two reasons a step can stop, and
the state after construction (spec/70_reset_and_hazards.md R380). -/

namespace Sys2Proof.Machine

/-- The two fatal errors of the engine (spec/60_exceptions.md R340, R341). -/
inductive StepError where
  /-- The opcode is not in the chosen preset. -/
  | unimplementedOpcode (extended : Bool) (opcode : Byte) (address : Word)
  /-- A byte access targeted no region. -/
  | unmappedAddress (address : Word)
  deriving DecidableEq, Repr

/-- The run status (R47). -/
inductive RunStatus where
  | running
  | faulted (e : StepError)
  deriving DecidableEq, Repr

/-- The Address Space (R44, R45). `boot` is the boot image, byte for byte. `cart`, `vram`, `io` and
`hram` are sparse buffers: (index, byte) cells, indexes strictly rising, no cell holding 0x00; an
index with no cell reads 0x00 (log 11). `cartLen` is len(romBytes). -/
structure Memory where
  bootOverlayActive : Bool
  boot : List Byte
  cartLen : Nat
  cart : List Host.Cell
  vram : List Host.Cell
  io : List Host.Cell
  hram : List Host.Cell
  deriving DecidableEq, Repr

/-- The whole state. `params` is the configuration the core was built with (log 1). -/
structure State where
  a : Byte
  f : Byte
  b : Byte
  c : Byte
  d : Byte
  e : Byte
  h : Byte
  l : Byte
  sp : Word
  pc : Word
  mem : Memory
  status : RunStatus
  params : Params
  deriving DecidableEq, Repr

/-- Why a step stops with no next state. -/
inductive Fault where
  /-- Raised by any byte access (fetch, load, store, push, pop) to an address no region maps
  (R66, R67, R341). SAFE: the spec leaves the state after it unconstrained (R344), so the model
  gives none; the address is the one R342 names (log 5). -/
  | unmappedAddress (address : Word)
  /-- Raised by `step` on a core whose run status is already Faulted (R47: no further step). SAFE:
  the spec defines no step there (log 6). -/
  | steppedWhileFaulted (e : StepError)
  deriving DecidableEq, Repr

/-- A refusal: the model gives no meaning. -/
inductive Refusal where
  /-- Raised by no arm of `exec`: every row of the opcode table has its meaning. SAFE. -/
  | notModelled (mnemonic : String)
  deriving DecidableEq, Repr

/-- The cells of a byte sequence that starts at index `k`: its nonzero bytes. -/
def cellsFrom (k : Nat) : List Byte → List Host.Cell
  | [] => []
  | v :: vs => if v = 0#8 then cellsFrom (k + 1) vs else (k, v) :: cellsFrom (k + 1) vs

/-- `boot_present` (R48, D4): a non-empty boot image was supplied. -/
def bootPresent (boot : List Byte) : Bool := !boot.isEmpty

/-- `construct(bootBytes, romBytes)` (R380) for given parameters and `REG_INIT`: the table of R48.
F[3:0] is forced to 0 (D3). -/
def State.construct (p : Params) (r : RegInit) (boot rom : List Byte) : State :=
  { a := r.a, f := r.f &&& 0xF0#8, b := r.b, c := r.c, d := r.d, e := r.e, h := r.h, l := r.l
    sp := Config.spInit
    pc := if bootPresent boot then Config.bootEntry else Config.cartEntry
    mem :=
      { bootOverlayActive := bootPresent boot, boot := boot
        cartLen := rom.length, cart := cellsFrom 0 rom, vram := [], io := [], hram := [] }
    status := .running
    params := p }

/-- The machine right after reset: constructed with no image, which is a legal construction
(R380: images of any length, empty ones included). DESIGN CHOICE for the images (log 4), for
`REG_INIT` (log 3) and for `IMPL` (log 2). -/
def State.reset : State := State.construct Params.whole RegInit.zero [] []

end Sys2Proof.Machine
end

