-- ==== Sys2Proof/Machine/Ops.lean ====
section
/-! DEFINITION. The named operations over registers and memory: the register file's views
(spec/10_state.md R30 to R34), the address-space router (spec/20_memory.md R61 to R73), the overlay
switch (R75; spec/30_encoding.md R100), the stack protocol (R80 to R84), instruction fetch (R101,
R102) and raising the engine's error (spec/60_exceptions.md R340 to R344).

An operation that accesses memory takes the rest of the instruction as its last argument: it stops
with the fault of R342, or hands the value and the state on. -/

namespace Sys2Proof.Machine

/-- What one step answers. -/
abbrev Result := Host.Outcome State Fault Refusal

/-! ## Register file -/

/-- `x[r]` for an operand register (R30). -/
def State.reg (s : State) (r : Reg8) : Byte :=
  match r with
  | .b => s.b
  | .c => s.c
  | .d => s.d
  | .e => s.e
  | .h => s.h
  | .l => s.l
  | .a => s.a

/-- `x[r] <- v` for an operand register (R30). -/
def State.setReg (s : State) (r : Reg8) (v : Byte) : State :=
  match r with
  | .b => { s with b := v }
  | .c => { s with c := v }
  | .d => { s with d := v }
  | .e => { s with e := v }
  | .h => { s with h := v }
  | .l => { s with l := v }
  | .a => { s with a := v }

/-- `x[BC]` (R31). -/
def State.bc (s : State) : Word := word s.b s.c

/-- `x[DE]` (R31). -/
def State.de (s : State) : Word := word s.d s.e

/-- `x[HL]` (R31). -/
def State.hl (s : State) : Word := word s.h s.l

/-- `x[AF]` (R31). -/
def State.af (s : State) : Word := word s.a s.f

/-- `x[BC] <- v` (R32). -/
def State.setBc (s : State) (v : Word) : State := { s with b := hiByte v, c := loByte v }

/-- `x[DE] <- v` (R32). -/
def State.setDe (s : State) (v : Word) : State := { s with d := hiByte v, e := loByte v }

/-- `x[HL] <- v` (R32). -/
def State.setHl (s : State) (v : Word) : State := { s with h := hiByte v, l := loByte v }

/-- `x[AF] <- v` (R33): F takes v[7:4] and its low four bits are 0. -/
def State.setAf (s : State) (v : Word) : State :=
  { s with a := hiByte v, f := loByte v &&& 0xF0#8 }

/-- `x[SP] <- v` (R34). -/
def State.setSp (s : State) (v : Word) : State := { s with sp := v }

/-- `pc <- v` (R18). -/
def State.setPc (s : State) (v : Word) : State := { s with pc := v }

/-! ## Sparse buffers -/

/-- The byte a buffer holds at an index; an index with no cell holds 0x00 (R45, log 11). -/
def cellsGet (m : List Host.Cell) (k : Nat) : Byte :=
  match m with
  | [] => 0#8
  | (j, v) :: rest => if j = k then v else cellsGet rest k

/-- Take every cell of an index out. -/
def cellsErase (m : List Host.Cell) (k : Nat) : List Host.Cell :=
  match m with
  | [] => []
  | (j, v) :: rest => if j = k then cellsErase rest k else (j, v) :: cellsErase rest k

/-- Put a cell before the first cell of a greater index. -/
def cellsInsert (m : List Host.Cell) (k : Nat) (v : Byte) : List Host.Cell :=
  match m with
  | [] => [(k, v)]
  | (j, w) :: rest => if k < j then (k, v) :: (j, w) :: rest else (j, w) :: cellsInsert rest k v

/-- Write a byte of a buffer, keeping its canonical form: 0x00 is written by having no cell. -/
def cellsSet (m : List Host.Cell) (k : Nat) (v : Byte) : List Host.Cell :=
  if v = 0#8 then cellsErase m k else cellsInsert (cellsErase m k) k v

/-- The canonical form of a buffer from index `lo` on, below `size`: indexes strictly rising, no
cell holding 0x00 (log 11). -/
def cellsWf (lo size : Nat) (m : List Host.Cell) : Bool :=
  match m with
  | [] => true
  | (k, v) :: rest => decide (lo ≤ k) && decide (k < size) && decide (v ≠ 0#8) && cellsWf (k + 1) size rest

/-! ## The address-space router -/

/-- The buffer that the write path of R62 routes an address to, and the index there. -/
inductive Place where
  | cart (k : Nat)
  | vram (k : Nat)
  | io (k : Nat)
  | hram (k : Nat)
  deriving DecidableEq, Repr

/-- The routing of R61 and R62 below the overlay: none where no region maps the address (R66, R67). -/
def Memory.route (m : Memory) (a : Word) : Option Place :=
  let n := a.toNat
  if n ≤ 0x7FFF then (if n < m.cartLen then some (.cart n) else none)
  else if n ≤ 0x9FFF then some (.vram (n - 0x8000))
  else if n < 0xFF00 then none
  else if n ≤ 0xFF7F then some (.io (n - 0xFF00))
  else if n ≤ 0xFFFE then some (.hram (n - 0xFF80))
  else none

/-- The byte a buffer holds. -/
def Memory.get (m : Memory) (p : Place) : Byte :=
  match p with
  | .cart k => cellsGet m.cart k
  | .vram k => cellsGet m.vram k
  | .io k => cellsGet m.io k
  | .hram k => cellsGet m.hram k

/-- The memory with one byte of a buffer written. -/
def Memory.set (m : Memory) (p : Place) (v : Byte) : Memory :=
  match p with
  | .cart k => { m with cart := cellsSet m.cart k v }
  | .vram k => { m with vram := cellsSet m.vram k v }
  | .io k => { m with io := cellsSet m.io k v }
  | .hram k => { m with hram := cellsSet m.hram k v }

/-- The byte of the writable buffer an address routes to, whether or not the overlay hides it. -/
def Memory.under (m : Memory) (a : Word) : Option Byte := (m.route a).map m.get

/-- `read_byte` (R61): the boot overlay first, then the router; none is `UnmappedAddress(a)`. -/
def Memory.readByte (m : Memory) (a : Word) : Option Byte :=
  if m.bootOverlayActive && decide (a.toNat ≤ 0xFF) then m.boot[a.toNat]? else m.under a

/-- `write_byte` (R62): never into the overlay; none is `UnmappedAddress(a)`. -/
def Memory.writeByte (m : Memory) (a : Word) (v : Byte) : Option Memory :=
  (m.route a).map fun p => m.set p v

/-- The canonical form of the whole memory: every writable buffer is in canonical form and within
its size (R45, log 11). -/
def Memory.wf (m : Memory) : Bool :=
  cellsWf 0 m.cartLen m.cart && cellsWf 0 Config.vramSize m.vram
    && cellsWf 0 Config.ioSize m.io && cellsWf 0 Config.hramSize m.hram

/-! ## Memory accesses of an instruction (R19) -/

/-- `MemRead(a, 1)`. -/
def State.load (s : State) (a : Word) (k : Byte → Result) : Result :=
  match s.mem.readByte a with
  | some v => k v
  | none => .fault (.unmappedAddress a)

/-- `MemWrite(a, 1, v)`. -/
def State.store (s : State) (a : Word) (v : Byte) (k : State → Result) : Result :=
  match s.mem.writeByte a v with
  | some m => k { s with mem := m }
  | none => .fault (.unmappedAddress a)

/-- `MemRead(a, 2)`: the low byte first, the second address modulo 2^16 (R70). -/
def State.loadWord (s : State) (a : Word) (k : Word → Result) : Result :=
  s.load a fun lo => s.load (a + 1#16) fun hi => k (word hi lo)

/-- `MemWrite(a, 2, v)`: the low byte first, the second address modulo 2^16 (R71). -/
def State.storeWord (s : State) (a : Word) (v : Word) (k : State → Result) : Result :=
  s.store a (loByte v) fun s1 => s1.store (a + 1#16) (hiByte v) k

/-! ## Stack protocol (R80) -/

/-- `Push8(v)` (R81): decrement SP, then write at the new SP. -/
def State.push8 (s : State) (v : Byte) (k : State → Result) : Result :=
  (s.setSp (s.sp - 1#16)).store (s.sp - 1#16) v k

/-- `Pop8()` (R82): read at SP, then increment SP. -/
def State.pop8 (s : State) (k : Byte → State → Result) : Result :=
  s.load s.sp fun v => k v (s.setSp (s.sp + 1#16))

/-- `Push16(v)` (R83): the high byte first. -/
def State.push16 (s : State) (v : Word) (k : State → Result) : Result :=
  s.push8 (hiByte v) fun s1 => s1.push8 (loByte v) k

/-- `Pop16()` (R84): the low byte first. -/
def State.pop16 (s : State) (k : Word → State → Result) : Result :=
  s.pop8 fun lo s1 => s1.pop8 fun hi s2 => k (word hi lo) s2

/-! ## Instruction fetch -/

/-- `Fetch8()` (R101): read the byte at pc, then increment pc. -/
def State.fetch8 (s : State) (k : Byte → State → Result) : Result :=
  s.load s.pc fun v => k v (s.setPc (s.pc + 1#16))

/-- `Fetch16()` (R102): the low byte first. -/
def State.fetch16 (s : State) (k : Word → State → Result) : Result :=
  s.fetch8 fun lo s1 => s1.fetch8 fun hi s2 => k (word hi lo) s2

/-! ## The boot-overlay switch -/

/-- `disable_boot_overlay()` (R75). -/
def State.disableBootOverlay (s : State) : State :=
  { s with mem := { s.mem with bootOverlayActive := false } }

/-- The test of R100 under `OVERLAY_POINT = AtStepStart`: pc = 0x0100 before the opcode fetch. -/
def State.switchAtStepStart (s : State) : State :=
  if s.params.overlayPoint = .atStepStart ∧ s.pc = 0x0100#16 then s.disableBootOverlay else s

/-- The test of R100 under `OVERLAY_POINT = AfterOpcodeFetch`: pc = 0x0100 after the opcode fetch. -/
def State.switchAfterOpcodeFetch (s : State) : State :=
  if s.params.overlayPoint = .afterOpcodeFetch ∧ s.pc = 0x0100#16 then s.disableBootOverlay else s

/-! ## Raising the engine's error -/

/-- `raise UnimplementedOpcode(ext, op, addr)`: the run status becomes Faulted and nothing else
changes (R343); pc is already past the opcode byte or bytes. There is no handler and no return
(R347), so this is the whole of exception entry. -/
def State.raiseUnimplemented (s : State) (extended : Bool) (opcode : Byte) (address : Word) : State :=
  { s with status := .faulted (.unimplementedOpcode extended opcode address) }

end Sys2Proof.Machine
end

