-- ==== Sys2Proof/Machine/Flags.lean ====
section
/-! DEFINITION. The flags of F (spec/10_state.md R35 to R37) and every flag computation: the 8-bit
ALU functions (spec/42_alu8.md R180, R181, R195), the 16-bit ones (spec/43_alu16.md R220, R223,
R224) and the rotates and shifts (spec/44_rotate_a.md, spec/45_cb_extended.md). The arithmetic is on
unbounded naturals, as R20 has it. -/

namespace Sys2Proof.Machine

/-- The bit of F that holds a flag (R35). -/
def flagPos (k : Flag) : Nat :=
  match k with
  | .z => 7
  | .n => 6
  | .h => 5
  | .c => 4

/-- `get_flag(k)` (R36). -/
def getFlag (f : Byte) (k : Flag) : Bool := f.getLsbD (flagPos k)

/-- `set_flag(k, b)` (R36): a masked read-modify-write of one bit of F. -/
def putFlag (f : Byte) (k : Flag) (b : Bool) : Byte :=
  (f &&& ~~~(1#8 <<< flagPos k)) ||| (bit8 b <<< flagPos k)

/-- `flag(k)`. -/
def State.flag (s : State) (k : Flag) : Bool := getFlag s.f k

/-- `flag(k) <- b`. -/
def State.setFlag (s : State) (k : Flag) (b : Bool) : State := { s with f := putFlag s.f k b }

/-- Write Z, N and H, and leave C. -/
def State.setZNH (s : State) (z n h : Bool) : State :=
  ((s.setFlag .z z).setFlag .n n).setFlag .h h

/-- Write N, H and C, and leave Z. -/
def State.setNHC (s : State) (n h c : Bool) : State :=
  ((s.setFlag .n n).setFlag .h h).setFlag .c c

/-- Write all four flags. -/
def State.setZNHC (s : State) (z n h c : Bool) : State := (s.setZNH z n h).setFlag .c c

/-! ## 8-bit arithmetic -/

/-- A result byte with the flags computed beside it. -/
structure AluResult where
  r : Byte
  z : Bool
  h : Bool
  c : Bool
  deriving DecidableEq, Repr

/-- `Add8(a, b, cin)` (R180). -/
def add8 (a b : Byte) (cin : Bool) : AluResult :=
  let s := a.toNat + b.toNat + cin.toNat
  { r := BitVec.ofNat 8 s
    z := decide (BitVec.ofNat 8 s = 0#8)
    h := decide (0x0F < a.toNat % 16 + b.toNat % 16 + cin.toNat)
    c := decide (0xFF < s) }

/-- `Sub8(a, b, cin)` (R181). -/
def sub8 (a b : Byte) (cin : Bool) : AluResult :=
  let r := a - b - BitVec.ofNat 8 cin.toNat
  { r := r
    z := decide (r = 0#8)
    h := decide (a.toNat % 16 < b.toNat % 16 + cin.toNat)
    c := decide (a.toNat < b.toNat + cin.toNat) }

/-- An 8-bit ALU operation of A with the operand `v` (R183, R184, R187 to R192). -/
def State.alu8 (s : State) (op : AluOp) (v : Byte) : State :=
  match op with
  | .add =>
    let x := add8 s.a v false
    { s with a := x.r }.setZNHC x.z false x.h x.c
  | .adc =>
    let x := add8 s.a v (s.flag .c)
    { s with a := x.r }.setZNHC x.z false x.h x.c
  | .sub =>
    let x := sub8 s.a v false
    { s with a := x.r }.setZNHC x.z true x.h x.c
  | .sbc =>
    let x := sub8 s.a v (s.flag .c)
    { s with a := x.r }.setZNHC x.z true x.h x.c
  | .and => { s with a := s.a &&& v }.setZNHC (decide (s.a &&& v = 0#8)) false true false
  | .xor => { s with a := s.a ^^^ v }.setZNHC (decide (s.a ^^^ v = 0#8)) false false false
  | .or => { s with a := s.a ||| v }.setZNHC (decide (s.a ||| v = 0#8)) false false false
  | .cp =>
    let x := sub8 s.a v false
    s.setZNHC x.z true x.h x.c

/-- The flags of an 8-bit increment of `v`; C stays (R185, R193). -/
def State.incFlags (s : State) (v : Byte) : State :=
  s.setZNH (decide (v + 1#8 = 0#8)) false (decide (v.toNat % 16 = 0x0F))

/-- The flags of an 8-bit decrement of `v`; C stays (R186, R194). -/
def State.decFlags (s : State) (v : Byte) : State :=
  s.setZNH (decide (v - 1#8 = 0#8)) true (decide (v.toNat % 16 = 0))

/-- DAA's adjustment after an addition (R195, flag N = 0): both tests look at the original A. -/
def daaAdd (a : Byte) (h c : Bool) : Byte × Bool :=
  let low : Byte := if h || decide (0x09 < a.toNat % 16) then 0x06#8 else 0#8
  let carry := c || decide (0x99 < a.toNat)
  (a + (low ||| (if carry then 0x60#8 else 0#8)), carry)

/-- DAA's adjustment after a subtraction (R195, flag N = 1): C is kept. -/
def daaSub (a : Byte) (h c : Bool) : Byte × Bool :=
  let low : Byte := if h then 0x06#8 else 0#8
  (a - (low ||| (if c then 0x60#8 else 0#8)), c)

/-- The result and the carry of DAA (R195). -/
def daaResult (a : Byte) (n h c : Bool) : Byte × Bool := if n then daaSub a h c else daaAdd a h c

/-! ## 16-bit arithmetic -/

/-- The flags of a pair increment of `v` (R220): Z, N and H under `INC16_FLAGS = Doc`, none under
`None`; C stays. -/
def State.inc16Flags (s : State) (v : Word) : State :=
  match s.params.inc16Flags with
  | .doc => s.setZNH (decide (v + 1#16 = 0#16)) false (decide (v.toNat % 0x1000 = 0x0FFF))
  | .none => s

/-- ADD HL,rr with the operand `b` (R223): N, H from bit 11 and C from bit 15; Z stays. -/
def State.addHl (s : State) (b : Word) : State :=
  let a := s.hl
  (s.setHl (BitVec.ofNat 16 (a.toNat + b.toNat))).setNHC false
    (decide (0x0FFF < a.toNat % 0x1000 + b.toNat % 0x1000)) (decide (0xFFFF < a.toNat + b.toNat))

/-- The flags of SP plus a signed offset (R160, R224): Z and N cleared, H and C from the unsigned
addition of the low byte of SP and the raw byte e. -/
def State.spOffsetFlags (s : State) (sp : Word) (e : Byte) : State :=
  s.setZNHC false false (decide (0x0F < sp.toNat % 16 + e.toNat % 16))
    (decide (0xFF < sp.toNat % 0x100 + e.toNat))

/-! ## Rotates and shifts -/

/-- The result and the bit shifted out of a rotate or shift of `v`, with the incoming carry
(R252 to R259; SWAP's C is 0). -/
def shiftResult (op : ShiftOp) (v : Byte) (cin : Bool) : Byte × Bool :=
  match op with
  | .rlc => ((v <<< 1) ||| bit8 (v.getLsbD 7), v.getLsbD 7)
  | .rrc => ((v >>> 1) ||| (bit8 (v.getLsbD 0) <<< 7), v.getLsbD 0)
  | .rl => ((v <<< 1) ||| bit8 cin, v.getLsbD 7)
  | .rr => ((v >>> 1) ||| (bit8 cin <<< 7), v.getLsbD 0)
  | .sla => (v <<< 1, v.getLsbD 7)
  | .sra => ((v >>> 1) ||| (v &&& 0x80#8), v.getLsbD 0)
  | .swap => ((v <<< 4) ||| (v >>> 4), false)
  | .srl => (v >>> 1, v.getLsbD 0)

/-- The flags of an extended rotate or shift: Z from the result, C the bit shifted out (R252 to R259). -/
def State.shiftFlags (s : State) (x : Byte × Bool) : State :=
  s.setZNHC (decide (x.1 = 0#8)) false false x.2

end Sys2Proof.Machine
end

