-- ==== Sys2Proof/Machine/Operands.lean ====
section
/-! DEFINITION. The operand forms (spec/00_scope.md R23; spec/30_encoding.md R112, R113;
spec/42_alu8.md R182; spec/45_cb_extended.md R250; spec/46_control.md R280). -/

namespace Sys2Proof.Machine

/-- `Read8(z)`: a register, or the byte at x[HL] (R23). -/
def State.read8 (s : State) (o : Opnd8) (k : Byte → Result) : Result :=
  match o with
  | .reg r => k (s.reg r)
  | .atHl => s.load s.hl k

/-- `Write8(z, v)`: a register, or the byte at x[HL] (R23). -/
def State.write8 (s : State) (o : Opnd8) (v : Byte) (k : State → Result) : Result :=
  match o with
  | .reg r => k (s.setReg r v)
  | .atHl => s.store s.hl v k

/-- The second operand of an ALU instruction: read as an operand field, or the immediate (R182). -/
def State.readAlu (s : State) (src : AluSrc) (k : Byte → Result) : Result :=
  match src with
  | .opnd o => s.read8 o k
  | .imm n => k n

/-- `x[rr]` for `reg16sp` (R18, R23). -/
def State.pairSp (s : State) (p : PairSp) : Word :=
  match p with
  | .bc => s.bc
  | .de => s.de
  | .hl => s.hl
  | .sp => s.sp

/-- `x[rr] <- v` for `reg16sp` (R18, R23). -/
def State.setPairSp (s : State) (p : PairSp) (v : Word) : State :=
  match p with
  | .bc => s.setBc v
  | .de => s.setDe v
  | .hl => s.setHl v
  | .sp => s.setSp v

/-- `x[rr]` for `reg16af` (R18, R23). -/
def State.pairAf (s : State) (p : PairAf) : Word :=
  match p with
  | .bc => s.bc
  | .de => s.de
  | .hl => s.hl
  | .af => s.af

/-- `x[rr] <- v` for `reg16af`; AF drops the low four bits (R32, R33). -/
def State.setPairAf (s : State) (p : PairAf) (v : Word) : State :=
  match p with
  | .bc => s.setBc v
  | .de => s.setDe v
  | .hl => s.setHl v
  | .af => s.setAf v

/-- `cond(cc)` (R280). -/
def State.cond (s : State) (cc : Cond) : Bool :=
  match cc with
  | .nz => !s.flag .z
  | .z => s.flag .z
  | .nc => !s.flag .c
  | .c => s.flag .c

/-- The address 0xFF00 + n of the high page (R113). -/
def highPage (n : Byte) : Word := 0xFF00#16 + zext16 n

/-- The address SP + e, with e signed (R160, R224). -/
def State.spOffset (s : State) (e : Byte) : Word := s.sp + sext16 e

/-- The target of a relative jump: pc, already past the offset byte, plus the signed offset (R281). -/
def State.jrTarget (s : State) (e : Byte) : Word := s.pc + sext16 e

end Sys2Proof.Machine
end

