-- ==== Sys2Proof/Machine/Alu16.lean ====
section
/-! DEFINITION. 16-bit arithmetic (spec/43_alu16.md R220 to R224). -/

namespace Sys2Proof.Machine

/-- `x[rr] <- x[rr] + 1`, with the flags `INC16_FLAGS` asks for (R220). -/
def incPair (p : PairSp) (s : State) : Result :=
  .next ((s.setPairSp p (s.pairSp p + 1#16)).inc16Flags (s.pairSp p))

/-- `x[rr] <- x[rr] - 1`; no flag (R222). -/
def decPair (p : PairSp) (s : State) : Result := .next (s.setPairSp p (s.pairSp p - 1#16))

/-- `x[HL] <- x[HL] + x[rr]`, with its flags (R223). -/
def addToHl (p : PairSp) (s : State) : Result := .next (s.addHl (s.pairSp p))

/-- `x[SP] <- x[SP] + sext16(e)`, with the flags of the low-byte addition (R224). -/
def addSpOffset (e : Byte) (s : State) : Result :=
  .next ((s.setSp (s.spOffset e)).spOffsetFlags s.sp e)

/-- `INC BC` (R220). -/
def execIncBc (s : State) : Result :=
  incPair .bc s

/-- `ADD HL,BC` (R223). -/
def execAddHlBc (s : State) : Result :=
  addToHl .bc s

/-- `DEC BC` (R222). -/
def execDecBc (s : State) : Result :=
  decPair .bc s

/-- `INC DE` (R220). -/
def execIncDe (s : State) : Result :=
  incPair .de s

/-- `ADD HL,DE` (R223). -/
def execAddHlDe (s : State) : Result :=
  addToHl .de s

/-- `DEC DE` (R222). -/
def execDecDe (s : State) : Result :=
  decPair .de s

/-- `INC HL` (R220). -/
def execIncHl (s : State) : Result :=
  incPair .hl s

/-- `ADD HL,HL` (R223). -/
def execAddHlHl (s : State) : Result :=
  addToHl .hl s

/-- `DEC HL` (R222). -/
def execDecHl (s : State) : Result :=
  decPair .hl s

/-- `INC SP` (R221). -/
def execIncSp (s : State) : Result :=
  .next (s.setSp (s.sp + 1#16))

/-- `ADD HL,SP` (R223). -/
def execAddHlSp (s : State) : Result :=
  addToHl .sp s

/-- `DEC SP` (R222). -/
def execDecSp (s : State) : Result :=
  decPair .sp s

/-- `ADD SP,e` (R224). -/
def execAddSpE (e : Byte) (s : State) : Result :=
  addSpOffset e s

end Sys2Proof.Machine
end

