-- ==== Sys2Proof/Machine/Alu8.lean ====
section
/-! DEFINITION. 8-bit ALU instructions (spec/42_alu8.md R182 to R198). -/

namespace Sys2Proof.Machine

/-- An ALU operation of A with its second operand (R182). -/
def aluOperand (op : AluOp) (src : AluSrc) (s : State) : Result :=
  s.readAlu src fun v => .next (s.alu8 op v)

/-- Read, add 1, write back, write the flags (R185, R193). -/
def incOperand (o : Opnd8) (s : State) : Result :=
  s.read8 o fun v => s.write8 o (v + 1#8) fun t => .next (t.incFlags v)

/-- Read, subtract 1, write back, write the flags (R186, R194). -/
def decOperand (o : Opnd8) (s : State) : Result :=
  s.read8 o fun v => s.write8 o (v - 1#8) fun t => .next (t.decFlags v)

/-- `x[A] <- a; flag(Z) <- (a = 0); flag(H) <- 0; flag(C) <- c`; N stays (R195). -/
def decimalAdjust (s : State) : Result :=
  let x := daaResult s.a (s.flag .n) (s.flag .h) (s.flag .c)
  .next ({ s with a := x.1 }.setZNHC (decide (x.1 = 0#8)) (s.flag .n) false x.2)

/-- `x[A] <- x[A] XOR 0xFF; flag(N) <- 1; flag(H) <- 1` (R196). -/
def complementA (s : State) : Result :=
  .next (({ s with a := s.a ^^^ 0xFF#8 }.setFlag .n true).setFlag .h true)

/-- `flag(N) <- 0; flag(H) <- 0; flag(C) <- 1` (R197). -/
def setCarry (s : State) : Result := .next (s.setNHC false false true)

/-- `flag(N) <- 0; flag(H) <- 0; flag(C) <- NOT flag(C)` (R198). -/
def complementCarry (s : State) : Result := .next (s.setNHC false false (!s.flag .c))

/-- `INC B` (R185). -/
def execIncB (s : State) : Result :=
  incOperand (.reg .b) s

/-- `DEC B` (R186). -/
def execDecB (s : State) : Result :=
  decOperand (.reg .b) s

/-- `INC C` (R185). -/
def execIncC (s : State) : Result :=
  incOperand (.reg .c) s

/-- `DEC C` (R186). -/
def execDecC (s : State) : Result :=
  decOperand (.reg .c) s

/-- `INC D` (R185). -/
def execIncD (s : State) : Result :=
  incOperand (.reg .d) s

/-- `DEC D` (R186). -/
def execDecD (s : State) : Result :=
  decOperand (.reg .d) s

/-- `INC E` (R185). -/
def execIncE (s : State) : Result :=
  incOperand (.reg .e) s

/-- `DEC E` (R186). -/
def execDecE (s : State) : Result :=
  decOperand (.reg .e) s

/-- `INC H` (R185). -/
def execIncH (s : State) : Result :=
  incOperand (.reg .h) s

/-- `DEC H` (R186). -/
def execDecH (s : State) : Result :=
  decOperand (.reg .h) s

/-- `DAA` (R195). -/
def execDaa (s : State) : Result :=
  decimalAdjust s

/-- `INC L` (R185). -/
def execIncL (s : State) : Result :=
  incOperand (.reg .l) s

/-- `DEC L` (R186). -/
def execDecL (s : State) : Result :=
  decOperand (.reg .l) s

/-- `CPL` (R196). -/
def execCpl (s : State) : Result :=
  complementA s

/-- `INC (HL)` (R193). -/
def execIncAtHl (s : State) : Result :=
  incOperand .atHl s

/-- `DEC (HL)` (R194). -/
def execDecAtHl (s : State) : Result :=
  decOperand .atHl s

/-- `SCF` (R197). -/
def execScf (s : State) : Result :=
  setCarry s

/-- `INC A` (R185). -/
def execIncA (s : State) : Result :=
  incOperand (.reg .a) s

/-- `DEC A` (R186). -/
def execDecA (s : State) : Result :=
  decOperand (.reg .a) s

/-- `CCF` (R198). -/
def execCcf (s : State) : Result :=
  complementCarry s

/-- `ADD A,B` (R187). -/
def execAddAB (s : State) : Result :=
  aluOperand .add (.opnd (.reg .b)) s

/-- `ADD A,C` (R187). -/
def execAddAC (s : State) : Result :=
  aluOperand .add (.opnd (.reg .c)) s

/-- `ADD A,D` (R187). -/
def execAddAD (s : State) : Result :=
  aluOperand .add (.opnd (.reg .d)) s

/-- `ADD A,E` (R187). -/
def execAddAE (s : State) : Result :=
  aluOperand .add (.opnd (.reg .e)) s

/-- `ADD A,H` (R187). -/
def execAddAH (s : State) : Result :=
  aluOperand .add (.opnd (.reg .h)) s

/-- `ADD A,L` (R187). -/
def execAddAL (s : State) : Result :=
  aluOperand .add (.opnd (.reg .l)) s

/-- `ADD A,(HL)` (R187). -/
def execAddAAtHl (s : State) : Result :=
  aluOperand .add (.opnd .atHl) s

/-- `ADD A,A` (R187). -/
def execAddAA (s : State) : Result :=
  aluOperand .add (.opnd (.reg .a)) s

/-- `ADC A,B` (R188). -/
def execAdcAB (s : State) : Result :=
  aluOperand .adc (.opnd (.reg .b)) s

/-- `ADC A,C` (R188). -/
def execAdcAC (s : State) : Result :=
  aluOperand .adc (.opnd (.reg .c)) s

/-- `ADC A,D` (R188). -/
def execAdcAD (s : State) : Result :=
  aluOperand .adc (.opnd (.reg .d)) s

/-- `ADC A,E` (R188). -/
def execAdcAE (s : State) : Result :=
  aluOperand .adc (.opnd (.reg .e)) s

/-- `ADC A,H` (R188). -/
def execAdcAH (s : State) : Result :=
  aluOperand .adc (.opnd (.reg .h)) s

/-- `ADC A,L` (R188). -/
def execAdcAL (s : State) : Result :=
  aluOperand .adc (.opnd (.reg .l)) s

/-- `ADC A,(HL)` (R188). -/
def execAdcAAtHl (s : State) : Result :=
  aluOperand .adc (.opnd .atHl) s

/-- `ADC A,A` (R188). -/
def execAdcAA (s : State) : Result :=
  aluOperand .adc (.opnd (.reg .a)) s

/-- `SUB B` (R189). -/
def execSubB (s : State) : Result :=
  aluOperand .sub (.opnd (.reg .b)) s

/-- `SUB C` (R189). -/
def execSubC (s : State) : Result :=
  aluOperand .sub (.opnd (.reg .c)) s

/-- `SUB D` (R189). -/
def execSubD (s : State) : Result :=
  aluOperand .sub (.opnd (.reg .d)) s

/-- `SUB E` (R189). -/
def execSubE (s : State) : Result :=
  aluOperand .sub (.opnd (.reg .e)) s

/-- `SUB H` (R189). -/
def execSubH (s : State) : Result :=
  aluOperand .sub (.opnd (.reg .h)) s

/-- `SUB L` (R189). -/
def execSubL (s : State) : Result :=
  aluOperand .sub (.opnd (.reg .l)) s

/-- `SUB (HL)` (R189). -/
def execSubAtHl (s : State) : Result :=
  aluOperand .sub (.opnd .atHl) s

/-- `SUB A` (R189). -/
def execSubA (s : State) : Result :=
  aluOperand .sub (.opnd (.reg .a)) s

/-- `SBC A,B` (R190). -/
def execSbcAB (s : State) : Result :=
  aluOperand .sbc (.opnd (.reg .b)) s

/-- `SBC A,C` (R190). -/
def execSbcAC (s : State) : Result :=
  aluOperand .sbc (.opnd (.reg .c)) s

/-- `SBC A,D` (R190). -/
def execSbcAD (s : State) : Result :=
  aluOperand .sbc (.opnd (.reg .d)) s

/-- `SBC A,E` (R190). -/
def execSbcAE (s : State) : Result :=
  aluOperand .sbc (.opnd (.reg .e)) s

/-- `SBC A,H` (R190). -/
def execSbcAH (s : State) : Result :=
  aluOperand .sbc (.opnd (.reg .h)) s

/-- `SBC A,L` (R190). -/
def execSbcAL (s : State) : Result :=
  aluOperand .sbc (.opnd (.reg .l)) s

/-- `SBC A,(HL)` (R190). -/
def execSbcAAtHl (s : State) : Result :=
  aluOperand .sbc (.opnd .atHl) s

/-- `SBC A,A` (R190). -/
def execSbcAA (s : State) : Result :=
  aluOperand .sbc (.opnd (.reg .a)) s

/-- `AND B` (R191). -/
def execAndB (s : State) : Result :=
  aluOperand .and (.opnd (.reg .b)) s

/-- `AND C` (R191). -/
def execAndC (s : State) : Result :=
  aluOperand .and (.opnd (.reg .c)) s

/-- `AND D` (R191). -/
def execAndD (s : State) : Result :=
  aluOperand .and (.opnd (.reg .d)) s

/-- `AND E` (R191). -/
def execAndE (s : State) : Result :=
  aluOperand .and (.opnd (.reg .e)) s

/-- `AND H` (R191). -/
def execAndH (s : State) : Result :=
  aluOperand .and (.opnd (.reg .h)) s

/-- `AND L` (R191). -/
def execAndL (s : State) : Result :=
  aluOperand .and (.opnd (.reg .l)) s

/-- `AND (HL)` (R191). -/
def execAndAtHl (s : State) : Result :=
  aluOperand .and (.opnd .atHl) s

/-- `AND A` (R191). -/
def execAndA (s : State) : Result :=
  aluOperand .and (.opnd (.reg .a)) s

/-- `XOR B` (R183). -/
def execXorB (s : State) : Result :=
  aluOperand .xor (.opnd (.reg .b)) s

/-- `XOR C` (R183). -/
def execXorC (s : State) : Result :=
  aluOperand .xor (.opnd (.reg .c)) s

/-- `XOR D` (R183). -/
def execXorD (s : State) : Result :=
  aluOperand .xor (.opnd (.reg .d)) s

/-- `XOR E` (R183). -/
def execXorE (s : State) : Result :=
  aluOperand .xor (.opnd (.reg .e)) s

/-- `XOR H` (R183). -/
def execXorH (s : State) : Result :=
  aluOperand .xor (.opnd (.reg .h)) s

/-- `XOR L` (R183). -/
def execXorL (s : State) : Result :=
  aluOperand .xor (.opnd (.reg .l)) s

/-- `XOR (HL)` (R183). -/
def execXorAtHl (s : State) : Result :=
  aluOperand .xor (.opnd .atHl) s

/-- `XOR A` (R183). -/
def execXorA (s : State) : Result :=
  aluOperand .xor (.opnd (.reg .a)) s

/-- `OR B` (R192). -/
def execOrB (s : State) : Result :=
  aluOperand .or (.opnd (.reg .b)) s

/-- `OR C` (R192). -/
def execOrC (s : State) : Result :=
  aluOperand .or (.opnd (.reg .c)) s

/-- `OR D` (R192). -/
def execOrD (s : State) : Result :=
  aluOperand .or (.opnd (.reg .d)) s

/-- `OR E` (R192). -/
def execOrE (s : State) : Result :=
  aluOperand .or (.opnd (.reg .e)) s

/-- `OR H` (R192). -/
def execOrH (s : State) : Result :=
  aluOperand .or (.opnd (.reg .h)) s

/-- `OR L` (R192). -/
def execOrL (s : State) : Result :=
  aluOperand .or (.opnd (.reg .l)) s

/-- `OR (HL)` (R192). -/
def execOrAtHl (s : State) : Result :=
  aluOperand .or (.opnd .atHl) s

/-- `OR A` (R192). -/
def execOrA (s : State) : Result :=
  aluOperand .or (.opnd (.reg .a)) s

/-- `CP B` (R184). -/
def execCpB (s : State) : Result :=
  aluOperand .cp (.opnd (.reg .b)) s

/-- `CP C` (R184). -/
def execCpC (s : State) : Result :=
  aluOperand .cp (.opnd (.reg .c)) s

/-- `CP D` (R184). -/
def execCpD (s : State) : Result :=
  aluOperand .cp (.opnd (.reg .d)) s

/-- `CP E` (R184). -/
def execCpE (s : State) : Result :=
  aluOperand .cp (.opnd (.reg .e)) s

/-- `CP H` (R184). -/
def execCpH (s : State) : Result :=
  aluOperand .cp (.opnd (.reg .h)) s

/-- `CP L` (R184). -/
def execCpL (s : State) : Result :=
  aluOperand .cp (.opnd (.reg .l)) s

/-- `CP (HL)` (R184). -/
def execCpAtHl (s : State) : Result :=
  aluOperand .cp (.opnd .atHl) s

/-- `CP A` (R184). -/
def execCpA (s : State) : Result :=
  aluOperand .cp (.opnd (.reg .a)) s

/-- `ADD A,n` (R187). -/
def execAddAN (n : Byte) (s : State) : Result :=
  aluOperand .add (.imm n) s

/-- `ADC A,n` (R188). -/
def execAdcAN (n : Byte) (s : State) : Result :=
  aluOperand .adc (.imm n) s

/-- `SUB n` (R189). -/
def execSubN (n : Byte) (s : State) : Result :=
  aluOperand .sub (.imm n) s

/-- `SBC A,n` (R190). -/
def execSbcAN (n : Byte) (s : State) : Result :=
  aluOperand .sbc (.imm n) s

/-- `AND n` (R191). -/
def execAndN (n : Byte) (s : State) : Result :=
  aluOperand .and (.imm n) s

/-- `XOR n` (R183). -/
def execXorN (n : Byte) (s : State) : Result :=
  aluOperand .xor (.imm n) s

/-- `OR n` (R192). -/
def execOrN (n : Byte) (s : State) : Result :=
  aluOperand .or (.imm n) s

/-- `CP n` (R184). -/
def execCpN (n : Byte) (s : State) : Result :=
  aluOperand .cp (.imm n) s

end Sys2Proof.Machine
end

