-- ==== Sys2Proof/Machine/Control.lean ====
section
/-! DEFINITION. Control transfer (spec/46_control.md R280 to R290). pc is past the operand bytes
when these run, so it is the address of the next instruction in sequence. No target is checked here:
an unmapped target faults on the next step's fetch. -/

namespace Sys2Proof.Machine

/-- JR e (R281). -/
def jumpRelative (e : Byte) (s : State) : Result := .next (s.setPc (s.jrTarget e))

/-- JR cc,e (R282). -/
def jumpRelativeIf (cc : Cond) (e : Byte) (s : State) : Result :=
  if s.cond cc then jumpRelative e s else .next s

/-- JP cc,nn (R287). -/
def jumpIf (cc : Cond) (nn : Word) (s : State) : Result :=
  if s.cond cc then .next (s.setPc nn) else .next s

/-- `Push16(pc); pc <- target` (R283, R290). -/
def callTo (target : Word) (s : State) : Result := s.push16 s.pc fun t => .next (t.setPc target)

/-- CALL cc,nn (R284). -/
def callIf (cc : Cond) (nn : Word) (s : State) : Result :=
  if s.cond cc then callTo nn s else .next s

/-- RET cc (R289). -/
def returnIf (cc : Cond) (s : State) : Result :=
  if s.cond cc then s.pop16 fun target t => .next (t.setPc target) else .next s

/-- `JR e` (R281). -/
def execJrE (e : Byte) (s : State) : Result :=
  jumpRelative e s

/-- `JR NZ,e` (R282). -/
def execJrNzE (e : Byte) (s : State) : Result :=
  jumpRelativeIf .nz e s

/-- `JR Z,e` (R282). -/
def execJrZE (e : Byte) (s : State) : Result :=
  jumpRelativeIf .z e s

/-- `JR NC,e` (R282). -/
def execJrNcE (e : Byte) (s : State) : Result :=
  jumpRelativeIf .nc e s

/-- `JR C,e` (R282). -/
def execJrCE (e : Byte) (s : State) : Result :=
  jumpRelativeIf .c e s

/-- `RET NZ` (R289). -/
def execRetNz (s : State) : Result :=
  returnIf .nz s

/-- `JP NZ,nn` (R287). -/
def execJpNzNn (nn : Word) (s : State) : Result :=
  jumpIf .nz nn s

/-- `JP nn` (R286). -/
def execJpNn (nn : Word) (s : State) : Result :=
  .next (s.setPc nn)

/-- `CALL NZ,nn` (R284). -/
def execCallNzNn (nn : Word) (s : State) : Result :=
  callIf .nz nn s

/-- `RST 0x00` (R290). -/
def execRst00 (s : State) : Result :=
  callTo 0x0000#16 s

/-- `RET Z` (R289). -/
def execRetZ (s : State) : Result :=
  returnIf .z s

/-- `RET` (R285). -/
def execRet (s : State) : Result :=
  s.pop16 fun target t => .next (t.setPc target)

/-- `JP Z,nn` (R287). -/
def execJpZNn (nn : Word) (s : State) : Result :=
  jumpIf .z nn s

/-- `CALL Z,nn` (R284). -/
def execCallZNn (nn : Word) (s : State) : Result :=
  callIf .z nn s

/-- `CALL nn` (R283). -/
def execCallNn (nn : Word) (s : State) : Result :=
  callTo nn s

/-- `RST 0x08` (R290). -/
def execRst08 (s : State) : Result :=
  callTo 0x0008#16 s

/-- `RET NC` (R289). -/
def execRetNc (s : State) : Result :=
  returnIf .nc s

/-- `JP NC,nn` (R287). -/
def execJpNcNn (nn : Word) (s : State) : Result :=
  jumpIf .nc nn s

/-- `CALL NC,nn` (R284). -/
def execCallNcNn (nn : Word) (s : State) : Result :=
  callIf .nc nn s

/-- `RST 0x10` (R290). -/
def execRst10 (s : State) : Result :=
  callTo 0x0010#16 s

/-- `RET C` (R289). -/
def execRetC (s : State) : Result :=
  returnIf .c s

/-- `JP C,nn` (R287). -/
def execJpCNn (nn : Word) (s : State) : Result :=
  jumpIf .c nn s

/-- `CALL C,nn` (R284). -/
def execCallCNn (nn : Word) (s : State) : Result :=
  callIf .c nn s

/-- `RST 0x18` (R290). -/
def execRst18 (s : State) : Result :=
  callTo 0x0018#16 s

/-- `RST 0x20` (R290). -/
def execRst20 (s : State) : Result :=
  callTo 0x0020#16 s

/-- `JP (HL)` (R288). -/
def execJpAtHl (s : State) : Result :=
  .next (s.setPc s.hl)

/-- `RST 0x28` (R290). -/
def execRst28 (s : State) : Result :=
  callTo 0x0028#16 s

/-- `RST 0x30` (R290). -/
def execRst30 (s : State) : Result :=
  callTo 0x0030#16 s

/-- `RST 0x38` (R290). -/
def execRst38 (s : State) : Result :=
  callTo 0x0038#16 s

end Sys2Proof.Machine
end

