-- ==== Sys2Proof/Decode.lean ====
section
/-! DEFINITION. The decoder, written from the field layout of spec/30_encoding.md R110 to R115 and
the Encoding line of each instruction's rule; the presets (R120 to R122); then the encoder, written
from the bytes of spec/opcode_table.json. Every byte value is the spec's own general knowledge
(spec/93_implementation_defined.md G1; log 13). -/

namespace Sys2Proof

/-! ## Operand-field decoders (R23) -/

/-- The register a 3-bit field names, or none for code 6. -/
def reg8Field (z : BitVec 3) : Opnd8 :=
  match z.toNat with
  | 0 => .reg .b
  | 1 => .reg .c
  | 2 => .reg .d
  | 3 => .reg .e
  | 4 => .reg .h
  | 5 => .reg .l
  | 6 => .atHl
  | _ => .reg .a

/-- `reg16sp(p)`. -/
def pairSpField (p : BitVec 2) : PairSp :=
  match p.toNat with
  | 0 => .bc
  | 1 => .de
  | 2 => .hl
  | _ => .sp

/-- `reg16af(p)`. -/
def pairAfField (p : BitVec 2) : PairAf :=
  match p.toNat with
  | 0 => .bc
  | 1 => .de
  | 2 => .hl
  | _ => .af

/-- `cond(c)`. -/
def condField (cc : BitVec 2) : Cond :=
  match cc.toNat with
  | 0 => .nz
  | 1 => .z
  | 2 => .nc
  | _ => .c

/-- The ALU operation selector (R182). -/
def aluField (y : BitVec 3) : AluOp :=
  match y.toNat with
  | 0 => .add
  | 1 => .adc
  | 2 => .sub
  | 3 => .sbc
  | 4 => .and
  | 5 => .xor
  | 6 => .or
  | _ => .cp

/-- The extended shift selector (R115). -/
def shiftField (y : BitVec 3) : ShiftOp :=
  match y.toNat with
  | 0 => .rlc
  | 1 => .rrc
  | 2 => .rl
  | 3 => .rr
  | 4 => .sla
  | 5 => .sra
  | 6 => .swap
  | _ => .srl

/-! ## The codes themselves (R23, R115, R182), for encodings stated by fields -/

/-- The code of a register. -/
def Reg8.code (r : Reg8) : Nat :=
  match r with
  | .b => 0
  | .c => 1
  | .d => 2
  | .e => 3
  | .h => 4
  | .l => 5
  | .a => 7

/-- The code of an 8-bit operand; (HL) is 6. -/
def Opnd8.code (o : Opnd8) : Nat :=
  match o with
  | .reg r => r.code
  | .atHl => 6

/-- The code of a pair of `reg16sp`. -/
def PairSp.code (p : PairSp) : Nat :=
  match p with
  | .bc => 0
  | .de => 1
  | .hl => 2
  | .sp => 3

/-- The code of a pair of `reg16af`. -/
def PairAf.code (p : PairAf) : Nat :=
  match p with
  | .bc => 0
  | .de => 1
  | .hl => 2
  | .af => 3

/-- The code of a condition. -/
def Cond.code (cc : Cond) : Nat :=
  match cc with
  | .nz => 0
  | .z => 1
  | .nc => 2
  | .c => 3

/-- The code of an ALU operation. -/
def AluOp.code (op : AluOp) : Nat :=
  match op with
  | .add => 0
  | .adc => 1
  | .sub => 2
  | .sbc => 3
  | .and => 4
  | .xor => 5
  | .or => 6
  | .cp => 7

/-- The code of an extended shift or rotate. -/
def ShiftOp.code (op : ShiftOp) : Nat :=
  match op with
  | .rlc => 0
  | .rrc => 1
  | .rl => 2
  | .rr => 3
  | .sla => 4
  | .sra => 5
  | .swap => 6
  | .srl => 7

/-- The opcode byte `[x:2 y:3 z:3]` (R110). -/
def opcodeByte (x y z : Nat) : Byte := BitVec.ofNat 8 (64 * x + 8 * y + z)

/-! ## The constructor of an operation with its operands -/

/-- LD r,r' (R143): destination, source. -/
def Instr.ofLdRR : Reg8 → Reg8 → Instr
  | .b, .b => .ldBB  | .b, .c => .ldBC  | .b, .d => .ldBD  | .b, .e => .ldBE  | .b, .h => .ldBH
  | .b, .l => .ldBL  | .b, .a => .ldBA  | .c, .b => .ldCB  | .c, .c => .ldCC  | .c, .d => .ldCD
  | .c, .e => .ldCE  | .c, .h => .ldCH  | .c, .l => .ldCL  | .c, .a => .ldCA  | .d, .b => .ldDB
  | .d, .c => .ldDC  | .d, .d => .ldDD  | .d, .e => .ldDE  | .d, .h => .ldDH  | .d, .l => .ldDL
  | .d, .a => .ldDA  | .e, .b => .ldEB  | .e, .c => .ldEC  | .e, .d => .ldED  | .e, .e => .ldEE
  | .e, .h => .ldEH  | .e, .l => .ldEL  | .e, .a => .ldEA  | .h, .b => .ldHB  | .h, .c => .ldHC
  | .h, .d => .ldHD  | .h, .e => .ldHE  | .h, .h => .ldHH  | .h, .l => .ldHL  | .h, .a => .ldHA
  | .l, .b => .ldLB  | .l, .c => .ldLC  | .l, .d => .ldLD  | .l, .e => .ldLE  | .l, .h => .ldLH
  | .l, .l => .ldLL  | .l, .a => .ldLA  | .a, .b => .ldAB  | .a, .c => .ldAC  | .a, .d => .ldAD
  | .a, .e => .ldAE  | .a, .h => .ldAH  | .a, .l => .ldAL  | .a, .a => .ldAA

/-- LD r,(HL) (R144). -/
def Instr.ofLdRHl : Reg8 → Instr
  | .b => .ldBAtHl  | .c => .ldCAtHl  | .d => .ldDAtHl  | .e => .ldEAtHl  | .h => .ldHAtHl
  | .l => .ldLAtHl  | .a => .ldAAtHl

/-- LD (HL),r (R145). -/
def Instr.ofLdHlR : Reg8 → Instr
  | .b => .ldAtHlB  | .c => .ldAtHlC  | .d => .ldAtHlD  | .e => .ldAtHlE  | .h => .ldAtHlH
  | .l => .ldAtHlL  | .a => .ldAtHlA

/-- LD r,n (R141). -/
def Instr.ofLdRN : Reg8 → Byte → Instr
  | .b, n => .ldBN n  | .c, n => .ldCN n  | .d, n => .ldDN n  | .e, n => .ldEN n  | .h, n => .ldHN n
  | .l, n => .ldLN n  | .a, n => .ldAN n

/-- LD rr,nn (R140). -/
def Instr.ofLdPair : PairSp → Word → Instr
  | .bc, nn => .ldBcNn nn  | .de, nn => .ldDeNn nn  | .hl, nn => .ldHlNn nn  | .sp, nn => .ldSpNn nn

/-- INC rr (R220) and INC SP (R221). -/
def Instr.ofIncPair : PairSp → Instr
  | .bc => .incBc  | .de => .incDe  | .hl => .incHl  | .sp => .incSp

/-- DEC rr (R222). -/
def Instr.ofDecPair : PairSp → Instr
  | .bc => .decBc  | .de => .decDe  | .hl => .decHl  | .sp => .decSp

/-- ADD HL,rr (R223). -/
def Instr.ofAddHl : PairSp → Instr
  | .bc => .addHlBc  | .de => .addHlDe  | .hl => .addHlHl  | .sp => .addHlSp

/-- INC r (R185) and INC (HL) (R193). -/
def Instr.ofInc : Opnd8 → Instr
  | .reg .b => .incB  | .reg .c => .incC  | .reg .d => .incD  | .reg .e => .incE  | .reg .h => .incH
  | .reg .l => .incL  | .atHl => .incAtHl  | .reg .a => .incA

/-- DEC r (R186) and DEC (HL) (R194). -/
def Instr.ofDec : Opnd8 → Instr
  | .reg .b => .decB  | .reg .c => .decC  | .reg .d => .decD  | .reg .e => .decE  | .reg .h => .decH
  | .reg .l => .decL  | .atHl => .decAtHl  | .reg .a => .decA

/-- The register form `10 yyy zzz` of an 8-bit ALU instruction (R182). -/
def Instr.ofAluOpnd : AluOp → Opnd8 → Instr
  | .add, .reg .b => .addAB  | .add, .reg .c => .addAC  | .add, .reg .d => .addAD
  | .add, .reg .e => .addAE  | .add, .reg .h => .addAH  | .add, .reg .l => .addAL
  | .add, .atHl => .addAAtHl  | .add, .reg .a => .addAA  | .adc, .reg .b => .adcAB
  | .adc, .reg .c => .adcAC  | .adc, .reg .d => .adcAD  | .adc, .reg .e => .adcAE
  | .adc, .reg .h => .adcAH  | .adc, .reg .l => .adcAL  | .adc, .atHl => .adcAAtHl
  | .adc, .reg .a => .adcAA  | .sub, .reg .b => .subB  | .sub, .reg .c => .subC
  | .sub, .reg .d => .subD  | .sub, .reg .e => .subE  | .sub, .reg .h => .subH
  | .sub, .reg .l => .subL  | .sub, .atHl => .subAtHl  | .sub, .reg .a => .subA
  | .sbc, .reg .b => .sbcAB  | .sbc, .reg .c => .sbcAC  | .sbc, .reg .d => .sbcAD
  | .sbc, .reg .e => .sbcAE  | .sbc, .reg .h => .sbcAH  | .sbc, .reg .l => .sbcAL
  | .sbc, .atHl => .sbcAAtHl  | .sbc, .reg .a => .sbcAA  | .and, .reg .b => .andB
  | .and, .reg .c => .andC  | .and, .reg .d => .andD  | .and, .reg .e => .andE
  | .and, .reg .h => .andH  | .and, .reg .l => .andL  | .and, .atHl => .andAtHl
  | .and, .reg .a => .andA  | .xor, .reg .b => .xorB  | .xor, .reg .c => .xorC
  | .xor, .reg .d => .xorD  | .xor, .reg .e => .xorE  | .xor, .reg .h => .xorH
  | .xor, .reg .l => .xorL  | .xor, .atHl => .xorAtHl  | .xor, .reg .a => .xorA
  | .or, .reg .b => .orB  | .or, .reg .c => .orC  | .or, .reg .d => .orD  | .or, .reg .e => .orE
  | .or, .reg .h => .orH  | .or, .reg .l => .orL  | .or, .atHl => .orAtHl  | .or, .reg .a => .orA
  | .cp, .reg .b => .cpB  | .cp, .reg .c => .cpC  | .cp, .reg .d => .cpD  | .cp, .reg .e => .cpE
  | .cp, .reg .h => .cpH  | .cp, .reg .l => .cpL  | .cp, .atHl => .cpAtHl  | .cp, .reg .a => .cpA

/-- The immediate form `11 yyy 110` of an 8-bit ALU instruction (R182). -/
def Instr.ofAluImm : AluOp → Byte → Instr
  | .add, n => .addAN n  | .adc, n => .adcAN n  | .sub, n => .subN n  | .sbc, n => .sbcAN n
  | .and, n => .andN n  | .xor, n => .xorN n  | .or, n => .orN n  | .cp, n => .cpN n

/-- An 8-bit ALU instruction in either form (R182). -/
def Instr.ofAlu (op : AluOp) (src : AluSrc) : Instr :=
  match src with
  | .opnd o => Instr.ofAluOpnd op o
  | .imm n => Instr.ofAluImm op n

/-- JR cc,e (R282). -/
def Instr.ofJr : Cond → Byte → Instr
  | .nz, e => .jrNzE e  | .z, e => .jrZE e  | .nc, e => .jrNcE e  | .c, e => .jrCE e

/-- JP cc,nn (R287). -/
def Instr.ofJp : Cond → Word → Instr
  | .nz, nn => .jpNzNn nn  | .z, nn => .jpZNn nn  | .nc, nn => .jpNcNn nn  | .c, nn => .jpCNn nn

/-- CALL cc,nn (R284). -/
def Instr.ofCall : Cond → Word → Instr
  | .nz, nn => .callNzNn nn  | .z, nn => .callZNn nn  | .nc, nn => .callNcNn nn
  | .c, nn => .callCNn nn

/-- RET cc (R289). -/
def Instr.ofRet : Cond → Instr
  | .nz => .retNz  | .z => .retZ  | .nc => .retNc  | .c => .retC

/-- RST t with t = 8·y (R290). -/
def Instr.ofRst : Fin 8 → Instr
  | 0 => .rst00  | 1 => .rst08  | 2 => .rst10  | 3 => .rst18  | 4 => .rst20  | 5 => .rst28
  | 6 => .rst30  | 7 => .rst38

/-- PUSH rr (R310). -/
def Instr.ofPush : PairAf → Instr
  | .bc => .pushBc  | .de => .pushDe  | .hl => .pushHl  | .af => .pushAf

/-- POP rr (R311). -/
def Instr.ofPop : PairAf → Instr
  | .bc => .popBc  | .de => .popDe  | .hl => .popHl  | .af => .popAf

/-- The extended shifts and rotates `CB 00 yyy zzz` (R115, R252 to R259). -/
def Instr.ofShift : ShiftOp → Opnd8 → Instr
  | .rlc, .reg .b => .rlcB  | .rlc, .reg .c => .rlcC  | .rlc, .reg .d => .rlcD
  | .rlc, .reg .e => .rlcE  | .rlc, .reg .h => .rlcH  | .rlc, .reg .l => .rlcL
  | .rlc, .atHl => .rlcAtHl  | .rlc, .reg .a => .rlcA  | .rrc, .reg .b => .rrcB
  | .rrc, .reg .c => .rrcC  | .rrc, .reg .d => .rrcD  | .rrc, .reg .e => .rrcE
  | .rrc, .reg .h => .rrcH  | .rrc, .reg .l => .rrcL  | .rrc, .atHl => .rrcAtHl
  | .rrc, .reg .a => .rrcA  | .rl, .reg .b => .rlB  | .rl, .reg .c => .rlC  | .rl, .reg .d => .rlD
  | .rl, .reg .e => .rlE  | .rl, .reg .h => .rlH  | .rl, .reg .l => .rlL  | .rl, .atHl => .rlAtHl
  | .rl, .reg .a => .rlA  | .rr, .reg .b => .rrB  | .rr, .reg .c => .rrC  | .rr, .reg .d => .rrD
  | .rr, .reg .e => .rrE  | .rr, .reg .h => .rrH  | .rr, .reg .l => .rrL  | .rr, .atHl => .rrAtHl
  | .rr, .reg .a => .rrA  | .sla, .reg .b => .slaB  | .sla, .reg .c => .slaC
  | .sla, .reg .d => .slaD  | .sla, .reg .e => .slaE  | .sla, .reg .h => .slaH
  | .sla, .reg .l => .slaL  | .sla, .atHl => .slaAtHl  | .sla, .reg .a => .slaA
  | .sra, .reg .b => .sraB  | .sra, .reg .c => .sraC  | .sra, .reg .d => .sraD
  | .sra, .reg .e => .sraE  | .sra, .reg .h => .sraH  | .sra, .reg .l => .sraL
  | .sra, .atHl => .sraAtHl  | .sra, .reg .a => .sraA  | .swap, .reg .b => .swapB
  | .swap, .reg .c => .swapC  | .swap, .reg .d => .swapD  | .swap, .reg .e => .swapE
  | .swap, .reg .h => .swapH  | .swap, .reg .l => .swapL  | .swap, .atHl => .swapAtHl
  | .swap, .reg .a => .swapA  | .srl, .reg .b => .srlB  | .srl, .reg .c => .srlC
  | .srl, .reg .d => .srlD  | .srl, .reg .e => .srlE  | .srl, .reg .h => .srlH
  | .srl, .reg .l => .srlL  | .srl, .atHl => .srlAtHl  | .srl, .reg .a => .srlA

/-- BIT b,r (R251), `CB` then the bit number y and the operand z. -/
def Instr.ofBit : Fin 8 → Opnd8 → Instr
  | 0, .reg .b => .bit0B  | 0, .reg .c => .bit0C  | 0, .reg .d => .bit0D  | 0, .reg .e => .bit0E
  | 0, .reg .h => .bit0H  | 0, .reg .l => .bit0L  | 0, .atHl => .bit0AtHl  | 0, .reg .a => .bit0A
  | 1, .reg .b => .bit1B  | 1, .reg .c => .bit1C  | 1, .reg .d => .bit1D  | 1, .reg .e => .bit1E
  | 1, .reg .h => .bit1H  | 1, .reg .l => .bit1L  | 1, .atHl => .bit1AtHl  | 1, .reg .a => .bit1A
  | 2, .reg .b => .bit2B  | 2, .reg .c => .bit2C  | 2, .reg .d => .bit2D  | 2, .reg .e => .bit2E
  | 2, .reg .h => .bit2H  | 2, .reg .l => .bit2L  | 2, .atHl => .bit2AtHl  | 2, .reg .a => .bit2A
  | 3, .reg .b => .bit3B  | 3, .reg .c => .bit3C  | 3, .reg .d => .bit3D  | 3, .reg .e => .bit3E
  | 3, .reg .h => .bit3H  | 3, .reg .l => .bit3L  | 3, .atHl => .bit3AtHl  | 3, .reg .a => .bit3A
  | 4, .reg .b => .bit4B  | 4, .reg .c => .bit4C  | 4, .reg .d => .bit4D  | 4, .reg .e => .bit4E
  | 4, .reg .h => .bit4H  | 4, .reg .l => .bit4L  | 4, .atHl => .bit4AtHl  | 4, .reg .a => .bit4A
  | 5, .reg .b => .bit5B  | 5, .reg .c => .bit5C  | 5, .reg .d => .bit5D  | 5, .reg .e => .bit5E
  | 5, .reg .h => .bit5H  | 5, .reg .l => .bit5L  | 5, .atHl => .bit5AtHl  | 5, .reg .a => .bit5A
  | 6, .reg .b => .bit6B  | 6, .reg .c => .bit6C  | 6, .reg .d => .bit6D  | 6, .reg .e => .bit6E
  | 6, .reg .h => .bit6H  | 6, .reg .l => .bit6L  | 6, .atHl => .bit6AtHl  | 6, .reg .a => .bit6A
  | 7, .reg .b => .bit7B  | 7, .reg .c => .bit7C  | 7, .reg .d => .bit7D  | 7, .reg .e => .bit7E
  | 7, .reg .h => .bit7H  | 7, .reg .l => .bit7L  | 7, .atHl => .bit7AtHl  | 7, .reg .a => .bit7A

/-- RES b,r (R260), `CB` then the bit number y and the operand z. -/
def Instr.ofRes : Fin 8 → Opnd8 → Instr
  | 0, .reg .b => .res0B  | 0, .reg .c => .res0C  | 0, .reg .d => .res0D  | 0, .reg .e => .res0E
  | 0, .reg .h => .res0H  | 0, .reg .l => .res0L  | 0, .atHl => .res0AtHl  | 0, .reg .a => .res0A
  | 1, .reg .b => .res1B  | 1, .reg .c => .res1C  | 1, .reg .d => .res1D  | 1, .reg .e => .res1E
  | 1, .reg .h => .res1H  | 1, .reg .l => .res1L  | 1, .atHl => .res1AtHl  | 1, .reg .a => .res1A
  | 2, .reg .b => .res2B  | 2, .reg .c => .res2C  | 2, .reg .d => .res2D  | 2, .reg .e => .res2E
  | 2, .reg .h => .res2H  | 2, .reg .l => .res2L  | 2, .atHl => .res2AtHl  | 2, .reg .a => .res2A
  | 3, .reg .b => .res3B  | 3, .reg .c => .res3C  | 3, .reg .d => .res3D  | 3, .reg .e => .res3E
  | 3, .reg .h => .res3H  | 3, .reg .l => .res3L  | 3, .atHl => .res3AtHl  | 3, .reg .a => .res3A
  | 4, .reg .b => .res4B  | 4, .reg .c => .res4C  | 4, .reg .d => .res4D  | 4, .reg .e => .res4E
  | 4, .reg .h => .res4H  | 4, .reg .l => .res4L  | 4, .atHl => .res4AtHl  | 4, .reg .a => .res4A
  | 5, .reg .b => .res5B  | 5, .reg .c => .res5C  | 5, .reg .d => .res5D  | 5, .reg .e => .res5E
  | 5, .reg .h => .res5H  | 5, .reg .l => .res5L  | 5, .atHl => .res5AtHl  | 5, .reg .a => .res5A
  | 6, .reg .b => .res6B  | 6, .reg .c => .res6C  | 6, .reg .d => .res6D  | 6, .reg .e => .res6E
  | 6, .reg .h => .res6H  | 6, .reg .l => .res6L  | 6, .atHl => .res6AtHl  | 6, .reg .a => .res6A
  | 7, .reg .b => .res7B  | 7, .reg .c => .res7C  | 7, .reg .d => .res7D  | 7, .reg .e => .res7E
  | 7, .reg .h => .res7H  | 7, .reg .l => .res7L  | 7, .atHl => .res7AtHl  | 7, .reg .a => .res7A

/-- SET b,r (R261), `CB` then the bit number y and the operand z. -/
def Instr.ofSet : Fin 8 → Opnd8 → Instr
  | 0, .reg .b => .set0B  | 0, .reg .c => .set0C  | 0, .reg .d => .set0D  | 0, .reg .e => .set0E
  | 0, .reg .h => .set0H  | 0, .reg .l => .set0L  | 0, .atHl => .set0AtHl  | 0, .reg .a => .set0A
  | 1, .reg .b => .set1B  | 1, .reg .c => .set1C  | 1, .reg .d => .set1D  | 1, .reg .e => .set1E
  | 1, .reg .h => .set1H  | 1, .reg .l => .set1L  | 1, .atHl => .set1AtHl  | 1, .reg .a => .set1A
  | 2, .reg .b => .set2B  | 2, .reg .c => .set2C  | 2, .reg .d => .set2D  | 2, .reg .e => .set2E
  | 2, .reg .h => .set2H  | 2, .reg .l => .set2L  | 2, .atHl => .set2AtHl  | 2, .reg .a => .set2A
  | 3, .reg .b => .set3B  | 3, .reg .c => .set3C  | 3, .reg .d => .set3D  | 3, .reg .e => .set3E
  | 3, .reg .h => .set3H  | 3, .reg .l => .set3L  | 3, .atHl => .set3AtHl  | 3, .reg .a => .set3A
  | 4, .reg .b => .set4B  | 4, .reg .c => .set4C  | 4, .reg .d => .set4D  | 4, .reg .e => .set4E
  | 4, .reg .h => .set4H  | 4, .reg .l => .set4L  | 4, .atHl => .set4AtHl  | 4, .reg .a => .set4A
  | 5, .reg .b => .set5B  | 5, .reg .c => .set5C  | 5, .reg .d => .set5D  | 5, .reg .e => .set5E
  | 5, .reg .h => .set5H  | 5, .reg .l => .set5L  | 5, .atHl => .set5AtHl  | 5, .reg .a => .set5A
  | 6, .reg .b => .set6B  | 6, .reg .c => .set6C  | 6, .reg .d => .set6D  | 6, .reg .e => .set6E
  | 6, .reg .h => .set6H  | 6, .reg .l => .set6L  | 6, .atHl => .set6AtHl  | 6, .reg .a => .set6A
  | 7, .reg .b => .set7B  | 7, .reg .c => .set7C  | 7, .reg .d => .set7D  | 7, .reg .e => .set7E
  | 7, .reg .h => .set7H  | 7, .reg .l => .set7L  | 7, .atHl => .set7AtHl  | 7, .reg .a => .set7A

/-! ## Rows of the base table -/

/-- A row of the base table: an instruction with no operand bytes, with one, or with a 16-bit
immediate (formats OP, OP_N/OP_E and OP_NN of R110; the CB format's second byte is its operand). -/
inductive Row where
  | op (i : Instr)
  | opN (f : Byte → Instr)
  | opNN (f : Word → Instr)

/-- `01 yyy zzz`: loads between 8-bit operands, and HALT (R114, R143 to R145). -/
def loadRow (y z : BitVec 3) : Instr :=
  match reg8Field y, reg8Field z with
  | .reg dst, .reg src => Instr.ofLdRR dst src
  | .reg dst, .atHl => Instr.ofLdRHl dst
  | .atHl, .reg src => Instr.ofLdHlR src
  | .atHl, .atHl => .halt

/-- `00 yyy 110`: LD r,n and LD (HL),n (R141, R142). -/
def loadImmRow (y : BitVec 3) : Row :=
  match reg8Field y with
  | .reg dst => .opN (Instr.ofLdRN dst)
  | .atHl => .opN .ldAtHlN

/-- `00 yyy 000` (R114). -/
def row0z0 (op : Byte) : Row :=
  match (yField op).toNat with
  | 0 => .op .nop
  | 1 => .opNN .ldAtNnSp
  | 2 => .op .stop
  | 3 => .opN .jrE
  | _ => .opN (Instr.ofJr (condField (ccField op)))

/-- `00 yyy 010`: loads through BC, DE, HL+ and HL- (R146 to R151). -/
def row0z2 (op : Byte) : Instr :=
  match (yField op).toNat with
  | 0 => .ldAtBcA
  | 1 => .ldAAtBc
  | 2 => .ldAtDeA
  | 3 => .ldAAtDe
  | 4 => .ldAtHlIncA
  | 5 => .ldAAtHlInc
  | 6 => .ldAtHlDecA
  | _ => .ldAAtHlDec

/-- `00 yyy 111` (R195 to R198, R240 to R243). -/
def row0z7 (op : Byte) : Instr :=
  match (yField op).toNat with
  | 0 => .rlca
  | 1 => .rrca
  | 2 => .rla
  | 3 => .rra
  | 4 => .daa
  | 5 => .cpl
  | 6 => .scf
  | _ => .ccf

/-- The quarter `00 yyy zzz` of the base table (R114). -/
def rowQuarter0 (op : Byte) : Row :=
  match (zField op).toNat with
  | 0 => row0z0 op
  | 1 => if qField op then .op (Instr.ofAddHl (pairSpField (pField op)))
         else .opNN (Instr.ofLdPair (pairSpField (pField op)))
  | 2 => .op (row0z2 op)
  | 3 => if qField op then .op (Instr.ofDecPair (pairSpField (pField op)))
         else .op (Instr.ofIncPair (pairSpField (pField op)))
  | 4 => .op (Instr.ofInc (reg8Field (yField op)))
  | 5 => .op (Instr.ofDec (reg8Field (yField op)))
  | 6 => loadImmRow (yField op)
  | _ => .op (row0z7 op)

/-- `11 yyy 000` (R154, R155, R160, R224, R289). -/
def row3z0 (op : Byte) : Row :=
  match (yField op).toNat with
  | 4 => .opN .ldhAtNA
  | 5 => .opN .addSpE
  | 6 => .opN .ldhAAtN
  | 7 => .opN .ldHlSpE
  | _ => .op (Instr.ofRet (condField (ccField op)))

/-- `11 yyy 001` (R159, R285, R288, R311, R322). -/
def row3z1 (op : Byte) : Instr :=
  match (yField op).toNat with
  | 1 => .ret
  | 3 => .reti
  | 5 => .jpAtHl
  | 7 => .ldSpHl
  | _ => Instr.ofPop (pairAfField (pField op))

/-- `11 yyy 010` (R152, R153, R156, R157, R287). -/
def row3z2 (op : Byte) : Row :=
  match (yField op).toNat with
  | 4 => .op .ldAtCA
  | 5 => .opNN .ldAtNnA
  | 6 => .op .ldAAtC
  | 7 => .opNN .ldAAtNn
  | _ => .opNN (Instr.ofJp (condField (ccField op)))

/-- `11 yyy 011` (R103, R286, R322, R323). -/
def row3z3 (op : Byte) : Row :=
  match (yField op).toNat with
  | 0 => .opNN .jpNn
  | 1 => .opN .cbPrefix
  | 2 => .op .illegalD3
  | 3 => .op .illegalDB
  | 4 => .op .illegalE3
  | 5 => .op .illegalEB
  | 6 => .op .di
  | _ => .op .ei

/-- `11 yyy 100` (R284, R323). -/
def row3z4 (op : Byte) : Row :=
  match (yField op).toNat with
  | 4 => .op .illegalE4
  | 5 => .op .illegalEC
  | 6 => .op .illegalF4
  | 7 => .op .illegalFC
  | _ => .opNN (Instr.ofCall (condField (ccField op)))

/-- `11 yyy 101` (R283, R310, R323). -/
def row3z5 (op : Byte) : Row :=
  match (yField op).toNat with
  | 1 => .opNN .callNn
  | 3 => .op .illegalDD
  | 5 => .op .illegalED
  | 7 => .op .illegalFD
  | _ => .op (Instr.ofPush (pairAfField (pField op)))

/-- The quarter `11 yyy zzz` of the base table (R114). -/
def rowQuarter3 (op : Byte) : Row :=
  match (zField op).toNat with
  | 0 => row3z0 op
  | 1 => .op (row3z1 op)
  | 2 => row3z2 op
  | 3 => row3z3 op
  | 4 => row3z4 op
  | 5 => row3z5 op
  | 6 => .opN (Instr.ofAluImm (aluField (yField op)))
  | _ => .op (Instr.ofRst (yField op).toFin)

/-- The base table (R114), read by fields. -/
def baseRow (op : Byte) : Row :=
  match (xField op).toNat with
  | 0 => rowQuarter0 op
  | 1 => .op (loadRow (yField op) (zField op))
  | 2 => .op (Instr.ofAluOpnd (aluField (yField op)) (reg8Field (zField op)))
  | _ => rowQuarter3 op

/-- The extended table (R115): the instruction of the second byte after 0xCB. -/
def extRow (op2 : Byte) : Instr :=
  match (xField op2).toNat with
  | 0 => Instr.ofShift (shiftField (yField op2)) (reg8Field (zField op2))
  | 1 => Instr.ofBit (yField op2).toFin (reg8Field (zField op2))
  | 2 => Instr.ofRes (yField op2).toFin (reg8Field (zField op2))
  | _ => Instr.ofSet (yField op2).toFin (reg8Field (zField op2))

/-! ## The decoder -/

/-- Why a byte list holds no whole instruction. Every opcode byte has a row (R104), so the only
rejection is a list that ends too soon. -/
inductive DecodeError where
  | noOpcodeByte
  | secondByteMissing
  | operandMissing
  deriving DecidableEq, Repr

/-- The operand bytes of a base row, low byte first (R102, R112). -/
def decodeOperands (row : Row) (bs : List Byte) : Except DecodeError (Instr × List Byte) :=
  match row, bs with
  | .op i, rest => .ok (i, rest)
  | .opN f, n :: rest => .ok (f n, rest)
  | .opNN f, lo :: hi :: rest => .ok (f (word hi lo), rest)
  | .opN _, [] => .error .operandMissing
  | .opNN _, [] => .error .operandMissing
  | .opNN _, [_] => .error .operandMissing

/-- The first instruction of a byte list and the bytes after it (R100, R103, R104). -/
def decode (bs : List Byte) : Except DecodeError (Instr × List Byte) :=
  match bs with
  | [] => .error .noOpcodeByte
  | op :: rest =>
    if op = 0xCB#8 then
      match rest with
      | [] => .error .secondByteMissing
      | op2 :: rest2 => .ok (extRow op2, rest2)
    else decodeOperands (baseRow op) rest

/-! ## Presets (R120 to R122) -/

/-- The sixteen base opcodes that raise UnimplementedOpcode in both presets (R122). -/
def refusedBase (op : Byte) : Bool :=
  [0x10#8, 0x76#8, 0xF3#8, 0xFB#8, 0xD9#8, 0xD3#8, 0xDB#8, 0xDD#8, 0xE3#8, 0xE4#8, 0xEB#8,
    0xEC#8, 0xED#8, 0xF4#8, 0xFC#8, 0xFD#8].contains op

/-- The base opcodes of preset DOC, family by family (R120). -/
def docBase (op : Byte) : Bool :=
  let y := (yField op).toNat
  let z := (zField op).toNat
  let p := (pField op).toNat
  match (xField op).toNat with
  | 0 =>
    (z == 1 && !qField op)                    -- LD rr,nn
    || z == 6                                 -- LD r,n and LD (HL),n
    || (z == 2 && 2 ≤ p)                      -- LD through (HL+) and (HL-)
    || ((z == 4 || z == 5) && y != 6)         -- INC r and DEC r
    || (z == 3 && !qField op && p != 3)       -- INC BC, DE, HL
    || (z == 0 && 3 ≤ y)                      -- JR and JR cc
  | 1 => !(y == 6 && z == 6)                  -- LD r,r', LD r,(HL), LD (HL),r
  | 2 => y == 5 || y == 7                     -- XOR and CP
  | _ =>
    (z == 6 && (y == 5 || y == 7))            -- XOR n and CP n
    || (z == 3 && y == 1)                     -- the lead-in 0xCB
    || (z == 5 && (y == 1 || !qField op))     -- CALL, PUSH
    || (z == 4 && y ≤ 3)                      -- CALL cc
    || (z == 1 && (y == 1 || !qField op))     -- RET, POP

/-- `IMPL_base` (R100): whether the preset executes a base opcode. -/
def implBase (impl : Impl) (op : Byte) : Bool :=
  match impl with
  | .doc => docBase op
  | .full => !refusedBase op

/-- `IMPL_ext` (R100): DOC executes BIT b,r and RL r on registers only (R120), FULL all 256 (R121). -/
def implExt (impl : Impl) (op2 : Byte) : Bool :=
  match impl with
  | .doc =>
    (zField op2).toNat != 6
      && ((xField op2).toNat == 1 || ((xField op2).toNat == 0 && (yField op2).toNat == 2))
  | .full => true

/-- Whether the preset executes the instruction whose bytes are `bs`. -/
def implementedBytes (impl : Impl) (bs : List Byte) : Bool :=
  match bs with
  | [] => false
  | op :: rest =>
    if op = 0xCB#8 then
      match rest with
      | [] => false
      | op2 :: _ => implExt impl op2
    else implBase impl op

/-- The length of an instruction, fixed by its first byte (R111). -/
def instrLength (op : Byte) : Nat :=
  if op = 0xCB#8 then 2
  else
    match baseRow op with
    | .op _ => 1
    | .opN _ => 2
    | .opNN _ => 3

/-! ## The encoder, from the table's bytes -/

/-- The bytes of an instruction (spec/opcode_table.json: match, format and operand order). -/
def encode (i : Instr) : List Byte :=
  match i with
  | .nop => [0x00#8]
  | .ldBcNn nn => [0x01#8, loByte nn, hiByte nn]
  | .ldAtBcA => [0x02#8]
  | .incBc => [0x03#8]
  | .incB => [0x04#8]
  | .decB => [0x05#8]
  | .ldBN n => [0x06#8, n]
  | .rlca => [0x07#8]
  | .ldAtNnSp nn => [0x08#8, loByte nn, hiByte nn]
  | .addHlBc => [0x09#8]
  | .ldAAtBc => [0x0A#8]
  | .decBc => [0x0B#8]
  | .incC => [0x0C#8]
  | .decC => [0x0D#8]
  | .ldCN n => [0x0E#8, n]
  | .rrca => [0x0F#8]
  | .stop => [0x10#8]
  | .ldDeNn nn => [0x11#8, loByte nn, hiByte nn]
  | .ldAtDeA => [0x12#8]
  | .incDe => [0x13#8]
  | .incD => [0x14#8]
  | .decD => [0x15#8]
  | .ldDN n => [0x16#8, n]
  | .rla => [0x17#8]
  | .jrE e => [0x18#8, e]
  | .addHlDe => [0x19#8]
  | .ldAAtDe => [0x1A#8]
  | .decDe => [0x1B#8]
  | .incE => [0x1C#8]
  | .decE => [0x1D#8]
  | .ldEN n => [0x1E#8, n]
  | .rra => [0x1F#8]
  | .jrNzE e => [0x20#8, e]
  | .ldHlNn nn => [0x21#8, loByte nn, hiByte nn]
  | .ldAtHlIncA => [0x22#8]
  | .incHl => [0x23#8]
  | .incH => [0x24#8]
  | .decH => [0x25#8]
  | .ldHN n => [0x26#8, n]
  | .daa => [0x27#8]
  | .jrZE e => [0x28#8, e]
  | .addHlHl => [0x29#8]
  | .ldAAtHlInc => [0x2A#8]
  | .decHl => [0x2B#8]
  | .incL => [0x2C#8]
  | .decL => [0x2D#8]
  | .ldLN n => [0x2E#8, n]
  | .cpl => [0x2F#8]
  | .jrNcE e => [0x30#8, e]
  | .ldSpNn nn => [0x31#8, loByte nn, hiByte nn]
  | .ldAtHlDecA => [0x32#8]
  | .incSp => [0x33#8]
  | .incAtHl => [0x34#8]
  | .decAtHl => [0x35#8]
  | .ldAtHlN n => [0x36#8, n]
  | .scf => [0x37#8]
  | .jrCE e => [0x38#8, e]
  | .addHlSp => [0x39#8]
  | .ldAAtHlDec => [0x3A#8]
  | .decSp => [0x3B#8]
  | .incA => [0x3C#8]
  | .decA => [0x3D#8]
  | .ldAN n => [0x3E#8, n]
  | .ccf => [0x3F#8]
  | .ldBB => [0x40#8]
  | .ldBC => [0x41#8]
  | .ldBD => [0x42#8]
  | .ldBE => [0x43#8]
  | .ldBH => [0x44#8]
  | .ldBL => [0x45#8]
  | .ldBAtHl => [0x46#8]
  | .ldBA => [0x47#8]
  | .ldCB => [0x48#8]
  | .ldCC => [0x49#8]
  | .ldCD => [0x4A#8]
  | .ldCE => [0x4B#8]
  | .ldCH => [0x4C#8]
  | .ldCL => [0x4D#8]
  | .ldCAtHl => [0x4E#8]
  | .ldCA => [0x4F#8]
  | .ldDB => [0x50#8]
  | .ldDC => [0x51#8]
  | .ldDD => [0x52#8]
  | .ldDE => [0x53#8]
  | .ldDH => [0x54#8]
  | .ldDL => [0x55#8]
  | .ldDAtHl => [0x56#8]
  | .ldDA => [0x57#8]
  | .ldEB => [0x58#8]
  | .ldEC => [0x59#8]
  | .ldED => [0x5A#8]
  | .ldEE => [0x5B#8]
  | .ldEH => [0x5C#8]
  | .ldEL => [0x5D#8]
  | .ldEAtHl => [0x5E#8]
  | .ldEA => [0x5F#8]
  | .ldHB => [0x60#8]
  | .ldHC => [0x61#8]
  | .ldHD => [0x62#8]
  | .ldHE => [0x63#8]
  | .ldHH => [0x64#8]
  | .ldHL => [0x65#8]
  | .ldHAtHl => [0x66#8]
  | .ldHA => [0x67#8]
  | .ldLB => [0x68#8]
  | .ldLC => [0x69#8]
  | .ldLD => [0x6A#8]
  | .ldLE => [0x6B#8]
  | .ldLH => [0x6C#8]
  | .ldLL => [0x6D#8]
  | .ldLAtHl => [0x6E#8]
  | .ldLA => [0x6F#8]
  | .ldAtHlB => [0x70#8]
  | .ldAtHlC => [0x71#8]
  | .ldAtHlD => [0x72#8]
  | .ldAtHlE => [0x73#8]
  | .ldAtHlH => [0x74#8]
  | .ldAtHlL => [0x75#8]
  | .halt => [0x76#8]
  | .ldAtHlA => [0x77#8]
  | .ldAB => [0x78#8]
  | .ldAC => [0x79#8]
  | .ldAD => [0x7A#8]
  | .ldAE => [0x7B#8]
  | .ldAH => [0x7C#8]
  | .ldAL => [0x7D#8]
  | .ldAAtHl => [0x7E#8]
  | .ldAA => [0x7F#8]
  | .addAB => [0x80#8]
  | .addAC => [0x81#8]
  | .addAD => [0x82#8]
  | .addAE => [0x83#8]
  | .addAH => [0x84#8]
  | .addAL => [0x85#8]
  | .addAAtHl => [0x86#8]
  | .addAA => [0x87#8]
  | .adcAB => [0x88#8]
  | .adcAC => [0x89#8]
  | .adcAD => [0x8A#8]
  | .adcAE => [0x8B#8]
  | .adcAH => [0x8C#8]
  | .adcAL => [0x8D#8]
  | .adcAAtHl => [0x8E#8]
  | .adcAA => [0x8F#8]
  | .subB => [0x90#8]
  | .subC => [0x91#8]
  | .subD => [0x92#8]
  | .subE => [0x93#8]
  | .subH => [0x94#8]
  | .subL => [0x95#8]
  | .subAtHl => [0x96#8]
  | .subA => [0x97#8]
  | .sbcAB => [0x98#8]
  | .sbcAC => [0x99#8]
  | .sbcAD => [0x9A#8]
  | .sbcAE => [0x9B#8]
  | .sbcAH => [0x9C#8]
  | .sbcAL => [0x9D#8]
  | .sbcAAtHl => [0x9E#8]
  | .sbcAA => [0x9F#8]
  | .andB => [0xA0#8]
  | .andC => [0xA1#8]
  | .andD => [0xA2#8]
  | .andE => [0xA3#8]
  | .andH => [0xA4#8]
  | .andL => [0xA5#8]
  | .andAtHl => [0xA6#8]
  | .andA => [0xA7#8]
  | .xorB => [0xA8#8]
  | .xorC => [0xA9#8]
  | .xorD => [0xAA#8]
  | .xorE => [0xAB#8]
  | .xorH => [0xAC#8]
  | .xorL => [0xAD#8]
  | .xorAtHl => [0xAE#8]
  | .xorA => [0xAF#8]
  | .orB => [0xB0#8]
  | .orC => [0xB1#8]
  | .orD => [0xB2#8]
  | .orE => [0xB3#8]
  | .orH => [0xB4#8]
  | .orL => [0xB5#8]
  | .orAtHl => [0xB6#8]
  | .orA => [0xB7#8]
  | .cpB => [0xB8#8]
  | .cpC => [0xB9#8]
  | .cpD => [0xBA#8]
  | .cpE => [0xBB#8]
  | .cpH => [0xBC#8]
  | .cpL => [0xBD#8]
  | .cpAtHl => [0xBE#8]
  | .cpA => [0xBF#8]
  | .retNz => [0xC0#8]
  | .popBc => [0xC1#8]
  | .jpNzNn nn => [0xC2#8, loByte nn, hiByte nn]
  | .jpNn nn => [0xC3#8, loByte nn, hiByte nn]
  | .callNzNn nn => [0xC4#8, loByte nn, hiByte nn]
  | .pushBc => [0xC5#8]
  | .addAN n => [0xC6#8, n]
  | .rst00 => [0xC7#8]
  | .retZ => [0xC8#8]
  | .ret => [0xC9#8]
  | .jpZNn nn => [0xCA#8, loByte nn, hiByte nn]
  | .cbPrefix b => [0xCB#8, b]
  | .callZNn nn => [0xCC#8, loByte nn, hiByte nn]
  | .callNn nn => [0xCD#8, loByte nn, hiByte nn]
  | .adcAN n => [0xCE#8, n]
  | .rst08 => [0xCF#8]
  | .retNc => [0xD0#8]
  | .popDe => [0xD1#8]
  | .jpNcNn nn => [0xD2#8, loByte nn, hiByte nn]
  | .illegalD3 => [0xD3#8]
  | .callNcNn nn => [0xD4#8, loByte nn, hiByte nn]
  | .pushDe => [0xD5#8]
  | .subN n => [0xD6#8, n]
  | .rst10 => [0xD7#8]
  | .retC => [0xD8#8]
  | .reti => [0xD9#8]
  | .jpCNn nn => [0xDA#8, loByte nn, hiByte nn]
  | .illegalDB => [0xDB#8]
  | .callCNn nn => [0xDC#8, loByte nn, hiByte nn]
  | .illegalDD => [0xDD#8]
  | .sbcAN n => [0xDE#8, n]
  | .rst18 => [0xDF#8]
  | .ldhAtNA n => [0xE0#8, n]
  | .popHl => [0xE1#8]
  | .ldAtCA => [0xE2#8]
  | .illegalE3 => [0xE3#8]
  | .illegalE4 => [0xE4#8]
  | .pushHl => [0xE5#8]
  | .andN n => [0xE6#8, n]
  | .rst20 => [0xE7#8]
  | .addSpE e => [0xE8#8, e]
  | .jpAtHl => [0xE9#8]
  | .ldAtNnA nn => [0xEA#8, loByte nn, hiByte nn]
  | .illegalEB => [0xEB#8]
  | .illegalEC => [0xEC#8]
  | .illegalED => [0xED#8]
  | .xorN n => [0xEE#8, n]
  | .rst28 => [0xEF#8]
  | .ldhAAtN n => [0xF0#8, n]
  | .popAf => [0xF1#8]
  | .ldAAtC => [0xF2#8]
  | .di => [0xF3#8]
  | .illegalF4 => [0xF4#8]
  | .pushAf => [0xF5#8]
  | .orN n => [0xF6#8, n]
  | .rst30 => [0xF7#8]
  | .ldHlSpE e => [0xF8#8, e]
  | .ldSpHl => [0xF9#8]
  | .ldAAtNn nn => [0xFA#8, loByte nn, hiByte nn]
  | .ei => [0xFB#8]
  | .illegalFC => [0xFC#8]
  | .illegalFD => [0xFD#8]
  | .cpN n => [0xFE#8, n]
  | .rst38 => [0xFF#8]
  | .rlcB => [0xCB#8, 0x00#8]
  | .rlcC => [0xCB#8, 0x01#8]
  | .rlcD => [0xCB#8, 0x02#8]
  | .rlcE => [0xCB#8, 0x03#8]
  | .rlcH => [0xCB#8, 0x04#8]
  | .rlcL => [0xCB#8, 0x05#8]
  | .rlcAtHl => [0xCB#8, 0x06#8]
  | .rlcA => [0xCB#8, 0x07#8]
  | .rrcB => [0xCB#8, 0x08#8]
  | .rrcC => [0xCB#8, 0x09#8]
  | .rrcD => [0xCB#8, 0x0A#8]
  | .rrcE => [0xCB#8, 0x0B#8]
  | .rrcH => [0xCB#8, 0x0C#8]
  | .rrcL => [0xCB#8, 0x0D#8]
  | .rrcAtHl => [0xCB#8, 0x0E#8]
  | .rrcA => [0xCB#8, 0x0F#8]
  | .rlB => [0xCB#8, 0x10#8]
  | .rlC => [0xCB#8, 0x11#8]
  | .rlD => [0xCB#8, 0x12#8]
  | .rlE => [0xCB#8, 0x13#8]
  | .rlH => [0xCB#8, 0x14#8]
  | .rlL => [0xCB#8, 0x15#8]
  | .rlAtHl => [0xCB#8, 0x16#8]
  | .rlA => [0xCB#8, 0x17#8]
  | .rrB => [0xCB#8, 0x18#8]
  | .rrC => [0xCB#8, 0x19#8]
  | .rrD => [0xCB#8, 0x1A#8]
  | .rrE => [0xCB#8, 0x1B#8]
  | .rrH => [0xCB#8, 0x1C#8]
  | .rrL => [0xCB#8, 0x1D#8]
  | .rrAtHl => [0xCB#8, 0x1E#8]
  | .rrA => [0xCB#8, 0x1F#8]
  | .slaB => [0xCB#8, 0x20#8]
  | .slaC => [0xCB#8, 0x21#8]
  | .slaD => [0xCB#8, 0x22#8]
  | .slaE => [0xCB#8, 0x23#8]
  | .slaH => [0xCB#8, 0x24#8]
  | .slaL => [0xCB#8, 0x25#8]
  | .slaAtHl => [0xCB#8, 0x26#8]
  | .slaA => [0xCB#8, 0x27#8]
  | .sraB => [0xCB#8, 0x28#8]
  | .sraC => [0xCB#8, 0x29#8]
  | .sraD => [0xCB#8, 0x2A#8]
  | .sraE => [0xCB#8, 0x2B#8]
  | .sraH => [0xCB#8, 0x2C#8]
  | .sraL => [0xCB#8, 0x2D#8]
  | .sraAtHl => [0xCB#8, 0x2E#8]
  | .sraA => [0xCB#8, 0x2F#8]
  | .swapB => [0xCB#8, 0x30#8]
  | .swapC => [0xCB#8, 0x31#8]
  | .swapD => [0xCB#8, 0x32#8]
  | .swapE => [0xCB#8, 0x33#8]
  | .swapH => [0xCB#8, 0x34#8]
  | .swapL => [0xCB#8, 0x35#8]
  | .swapAtHl => [0xCB#8, 0x36#8]
  | .swapA => [0xCB#8, 0x37#8]
  | .srlB => [0xCB#8, 0x38#8]
  | .srlC => [0xCB#8, 0x39#8]
  | .srlD => [0xCB#8, 0x3A#8]
  | .srlE => [0xCB#8, 0x3B#8]
  | .srlH => [0xCB#8, 0x3C#8]
  | .srlL => [0xCB#8, 0x3D#8]
  | .srlAtHl => [0xCB#8, 0x3E#8]
  | .srlA => [0xCB#8, 0x3F#8]
  | .bit0B => [0xCB#8, 0x40#8]
  | .bit0C => [0xCB#8, 0x41#8]
  | .bit0D => [0xCB#8, 0x42#8]
  | .bit0E => [0xCB#8, 0x43#8]
  | .bit0H => [0xCB#8, 0x44#8]
  | .bit0L => [0xCB#8, 0x45#8]
  | .bit0AtHl => [0xCB#8, 0x46#8]
  | .bit0A => [0xCB#8, 0x47#8]
  | .bit1B => [0xCB#8, 0x48#8]
  | .bit1C => [0xCB#8, 0x49#8]
  | .bit1D => [0xCB#8, 0x4A#8]
  | .bit1E => [0xCB#8, 0x4B#8]
  | .bit1H => [0xCB#8, 0x4C#8]
  | .bit1L => [0xCB#8, 0x4D#8]
  | .bit1AtHl => [0xCB#8, 0x4E#8]
  | .bit1A => [0xCB#8, 0x4F#8]
  | .bit2B => [0xCB#8, 0x50#8]
  | .bit2C => [0xCB#8, 0x51#8]
  | .bit2D => [0xCB#8, 0x52#8]
  | .bit2E => [0xCB#8, 0x53#8]
  | .bit2H => [0xCB#8, 0x54#8]
  | .bit2L => [0xCB#8, 0x55#8]
  | .bit2AtHl => [0xCB#8, 0x56#8]
  | .bit2A => [0xCB#8, 0x57#8]
  | .bit3B => [0xCB#8, 0x58#8]
  | .bit3C => [0xCB#8, 0x59#8]
  | .bit3D => [0xCB#8, 0x5A#8]
  | .bit3E => [0xCB#8, 0x5B#8]
  | .bit3H => [0xCB#8, 0x5C#8]
  | .bit3L => [0xCB#8, 0x5D#8]
  | .bit3AtHl => [0xCB#8, 0x5E#8]
  | .bit3A => [0xCB#8, 0x5F#8]
  | .bit4B => [0xCB#8, 0x60#8]
  | .bit4C => [0xCB#8, 0x61#8]
  | .bit4D => [0xCB#8, 0x62#8]
  | .bit4E => [0xCB#8, 0x63#8]
  | .bit4H => [0xCB#8, 0x64#8]
  | .bit4L => [0xCB#8, 0x65#8]
  | .bit4AtHl => [0xCB#8, 0x66#8]
  | .bit4A => [0xCB#8, 0x67#8]
  | .bit5B => [0xCB#8, 0x68#8]
  | .bit5C => [0xCB#8, 0x69#8]
  | .bit5D => [0xCB#8, 0x6A#8]
  | .bit5E => [0xCB#8, 0x6B#8]
  | .bit5H => [0xCB#8, 0x6C#8]
  | .bit5L => [0xCB#8, 0x6D#8]
  | .bit5AtHl => [0xCB#8, 0x6E#8]
  | .bit5A => [0xCB#8, 0x6F#8]
  | .bit6B => [0xCB#8, 0x70#8]
  | .bit6C => [0xCB#8, 0x71#8]
  | .bit6D => [0xCB#8, 0x72#8]
  | .bit6E => [0xCB#8, 0x73#8]
  | .bit6H => [0xCB#8, 0x74#8]
  | .bit6L => [0xCB#8, 0x75#8]
  | .bit6AtHl => [0xCB#8, 0x76#8]
  | .bit6A => [0xCB#8, 0x77#8]
  | .bit7B => [0xCB#8, 0x78#8]
  | .bit7C => [0xCB#8, 0x79#8]
  | .bit7D => [0xCB#8, 0x7A#8]
  | .bit7E => [0xCB#8, 0x7B#8]
  | .bit7H => [0xCB#8, 0x7C#8]
  | .bit7L => [0xCB#8, 0x7D#8]
  | .bit7AtHl => [0xCB#8, 0x7E#8]
  | .bit7A => [0xCB#8, 0x7F#8]
  | .res0B => [0xCB#8, 0x80#8]
  | .res0C => [0xCB#8, 0x81#8]
  | .res0D => [0xCB#8, 0x82#8]
  | .res0E => [0xCB#8, 0x83#8]
  | .res0H => [0xCB#8, 0x84#8]
  | .res0L => [0xCB#8, 0x85#8]
  | .res0AtHl => [0xCB#8, 0x86#8]
  | .res0A => [0xCB#8, 0x87#8]
  | .res1B => [0xCB#8, 0x88#8]
  | .res1C => [0xCB#8, 0x89#8]
  | .res1D => [0xCB#8, 0x8A#8]
  | .res1E => [0xCB#8, 0x8B#8]
  | .res1H => [0xCB#8, 0x8C#8]
  | .res1L => [0xCB#8, 0x8D#8]
  | .res1AtHl => [0xCB#8, 0x8E#8]
  | .res1A => [0xCB#8, 0x8F#8]
  | .res2B => [0xCB#8, 0x90#8]
  | .res2C => [0xCB#8, 0x91#8]
  | .res2D => [0xCB#8, 0x92#8]
  | .res2E => [0xCB#8, 0x93#8]
  | .res2H => [0xCB#8, 0x94#8]
  | .res2L => [0xCB#8, 0x95#8]
  | .res2AtHl => [0xCB#8, 0x96#8]
  | .res2A => [0xCB#8, 0x97#8]
  | .res3B => [0xCB#8, 0x98#8]
  | .res3C => [0xCB#8, 0x99#8]
  | .res3D => [0xCB#8, 0x9A#8]
  | .res3E => [0xCB#8, 0x9B#8]
  | .res3H => [0xCB#8, 0x9C#8]
  | .res3L => [0xCB#8, 0x9D#8]
  | .res3AtHl => [0xCB#8, 0x9E#8]
  | .res3A => [0xCB#8, 0x9F#8]
  | .res4B => [0xCB#8, 0xA0#8]
  | .res4C => [0xCB#8, 0xA1#8]
  | .res4D => [0xCB#8, 0xA2#8]
  | .res4E => [0xCB#8, 0xA3#8]
  | .res4H => [0xCB#8, 0xA4#8]
  | .res4L => [0xCB#8, 0xA5#8]
  | .res4AtHl => [0xCB#8, 0xA6#8]
  | .res4A => [0xCB#8, 0xA7#8]
  | .res5B => [0xCB#8, 0xA8#8]
  | .res5C => [0xCB#8, 0xA9#8]
  | .res5D => [0xCB#8, 0xAA#8]
  | .res5E => [0xCB#8, 0xAB#8]
  | .res5H => [0xCB#8, 0xAC#8]
  | .res5L => [0xCB#8, 0xAD#8]
  | .res5AtHl => [0xCB#8, 0xAE#8]
  | .res5A => [0xCB#8, 0xAF#8]
  | .res6B => [0xCB#8, 0xB0#8]
  | .res6C => [0xCB#8, 0xB1#8]
  | .res6D => [0xCB#8, 0xB2#8]
  | .res6E => [0xCB#8, 0xB3#8]
  | .res6H => [0xCB#8, 0xB4#8]
  | .res6L => [0xCB#8, 0xB5#8]
  | .res6AtHl => [0xCB#8, 0xB6#8]
  | .res6A => [0xCB#8, 0xB7#8]
  | .res7B => [0xCB#8, 0xB8#8]
  | .res7C => [0xCB#8, 0xB9#8]
  | .res7D => [0xCB#8, 0xBA#8]
  | .res7E => [0xCB#8, 0xBB#8]
  | .res7H => [0xCB#8, 0xBC#8]
  | .res7L => [0xCB#8, 0xBD#8]
  | .res7AtHl => [0xCB#8, 0xBE#8]
  | .res7A => [0xCB#8, 0xBF#8]
  | .set0B => [0xCB#8, 0xC0#8]
  | .set0C => [0xCB#8, 0xC1#8]
  | .set0D => [0xCB#8, 0xC2#8]
  | .set0E => [0xCB#8, 0xC3#8]
  | .set0H => [0xCB#8, 0xC4#8]
  | .set0L => [0xCB#8, 0xC5#8]
  | .set0AtHl => [0xCB#8, 0xC6#8]
  | .set0A => [0xCB#8, 0xC7#8]
  | .set1B => [0xCB#8, 0xC8#8]
  | .set1C => [0xCB#8, 0xC9#8]
  | .set1D => [0xCB#8, 0xCA#8]
  | .set1E => [0xCB#8, 0xCB#8]
  | .set1H => [0xCB#8, 0xCC#8]
  | .set1L => [0xCB#8, 0xCD#8]
  | .set1AtHl => [0xCB#8, 0xCE#8]
  | .set1A => [0xCB#8, 0xCF#8]
  | .set2B => [0xCB#8, 0xD0#8]
  | .set2C => [0xCB#8, 0xD1#8]
  | .set2D => [0xCB#8, 0xD2#8]
  | .set2E => [0xCB#8, 0xD3#8]
  | .set2H => [0xCB#8, 0xD4#8]
  | .set2L => [0xCB#8, 0xD5#8]
  | .set2AtHl => [0xCB#8, 0xD6#8]
  | .set2A => [0xCB#8, 0xD7#8]
  | .set3B => [0xCB#8, 0xD8#8]
  | .set3C => [0xCB#8, 0xD9#8]
  | .set3D => [0xCB#8, 0xDA#8]
  | .set3E => [0xCB#8, 0xDB#8]
  | .set3H => [0xCB#8, 0xDC#8]
  | .set3L => [0xCB#8, 0xDD#8]
  | .set3AtHl => [0xCB#8, 0xDE#8]
  | .set3A => [0xCB#8, 0xDF#8]
  | .set4B => [0xCB#8, 0xE0#8]
  | .set4C => [0xCB#8, 0xE1#8]
  | .set4D => [0xCB#8, 0xE2#8]
  | .set4E => [0xCB#8, 0xE3#8]
  | .set4H => [0xCB#8, 0xE4#8]
  | .set4L => [0xCB#8, 0xE5#8]
  | .set4AtHl => [0xCB#8, 0xE6#8]
  | .set4A => [0xCB#8, 0xE7#8]
  | .set5B => [0xCB#8, 0xE8#8]
  | .set5C => [0xCB#8, 0xE9#8]
  | .set5D => [0xCB#8, 0xEA#8]
  | .set5E => [0xCB#8, 0xEB#8]
  | .set5H => [0xCB#8, 0xEC#8]
  | .set5L => [0xCB#8, 0xED#8]
  | .set5AtHl => [0xCB#8, 0xEE#8]
  | .set5A => [0xCB#8, 0xEF#8]
  | .set6B => [0xCB#8, 0xF0#8]
  | .set6C => [0xCB#8, 0xF1#8]
  | .set6D => [0xCB#8, 0xF2#8]
  | .set6E => [0xCB#8, 0xF3#8]
  | .set6H => [0xCB#8, 0xF4#8]
  | .set6L => [0xCB#8, 0xF5#8]
  | .set6AtHl => [0xCB#8, 0xF6#8]
  | .set6A => [0xCB#8, 0xF7#8]
  | .set7B => [0xCB#8, 0xF8#8]
  | .set7C => [0xCB#8, 0xF9#8]
  | .set7D => [0xCB#8, 0xFA#8]
  | .set7E => [0xCB#8, 0xFB#8]
  | .set7H => [0xCB#8, 0xFC#8]
  | .set7L => [0xCB#8, 0xFD#8]
  | .set7AtHl => [0xCB#8, 0xFE#8]
  | .set7A => [0xCB#8, 0xFF#8]

/-- Whether a preset executes an instruction (R120, R121). -/
def Instr.implemented (i : Instr) (impl : Impl) : Bool := implementedBytes impl (encode i)

/-! ## The table's bit numbering -/

/-- The bytes of a table word, first byte first, then zeros up to three bytes. Bit 0 is the least
significant bit of the first byte, except in the rows of the extended table, which the table numbers
with the lead-in 0xCB in bits 15–8 (spec/INDEX.md, "How to read opcode_table.json"; log 10). -/
def tableBytes (nbits w : Nat) : List Byte :=
  let v := w % 2 ^ nbits
  if nbits = 16 ∧ v / 256 % 256 = 0xCB then [0xCB#8, BitVec.ofNat 8 v, 0#8]
  else [BitVec.ofNat 8 v, BitVec.ofNat 8 (v / 256), BitVec.ofNat 8 (v / 65536)]

/-- The instruction the decoder reads from a table word. -/
def decodeTableWord (nbits w : Nat) : Option Instr :=
  match decode (tableBytes nbits w) with
  | .ok (i, _) => some i
  | .error _ => none

end Sys2Proof
end

