-- ==== Sys2Proof/Machine/Extended.lean ====
section
/-! DEFINITION. The extended, 0xCB-prefixed opcode space (spec/45_cb_extended.md R250 to R261) and
the row of the lead-in itself (spec/30_encoding.md R103). -/

namespace Sys2Proof.Machine

/-- A rotate or shift of an operand: read once, write once, then the flags (R252 to R259). -/
def shiftOperand (op : ShiftOp) (o : Opnd8) (s : State) : Result :=
  s.read8 o fun v =>
    let x := shiftResult op v (s.flag .c)
    s.write8 o x.1 fun t => .next (t.shiftFlags x)

/-- BIT b,r: Z is NOT bit b, N = 0, H = 1, C stays; the operand is not written (R251). -/
def testBit (b : Fin 8) (o : Opnd8) (s : State) : Result :=
  s.read8 o fun v => .next (s.setZNH (!v.getLsbD b) false true)

/-- RES b,r (R260). -/
def resetBit (b : Fin 8) (o : Opnd8) (s : State) : Result :=
  s.read8 o fun v => s.write8 o (v &&& ~~~(1#8 <<< b.val)) .next

/-- SET b,r (R261). -/
def setBit (b : Fin 8) (o : Opnd8) (s : State) : Result :=
  s.read8 o fun v => s.write8 o (v ||| (1#8 <<< b.val)) .next

/-- The rule of an extended row, by the fields of the second byte (R115). -/
def extOperation (op2 : Byte) (s : State) : Result :=
  match (xField op2).toNat with
  | 0 => shiftOperand (shiftField (yField op2)) (reg8Field (zField op2)) s
  | 1 => testBit (yField op2).toFin (reg8Field (zField op2)) s
  | 2 => resetBit (yField op2).toFin (reg8Field (zField op2)) s
  | _ => setBit (yField op2).toFin (reg8Field (zField op2)) s

/-- The lead-in 0xCB with its second byte (R103). The second byte, tested against the preset and looked up in the extended table; the report is that of R341. -/
def execCbPrefix (b : Byte) (s : State) : Result :=
  if implExt s.params.impl b then extOperation b s
  else .next (s.raiseUnimplemented true b (s.pc - 2#16))

/-- `RLC B` (R253). -/
def execRlcB (s : State) : Result :=
  shiftOperand .rlc (.reg .b) s

/-- `RLC C` (R253). -/
def execRlcC (s : State) : Result :=
  shiftOperand .rlc (.reg .c) s

/-- `RLC D` (R253). -/
def execRlcD (s : State) : Result :=
  shiftOperand .rlc (.reg .d) s

/-- `RLC E` (R253). -/
def execRlcE (s : State) : Result :=
  shiftOperand .rlc (.reg .e) s

/-- `RLC H` (R253). -/
def execRlcH (s : State) : Result :=
  shiftOperand .rlc (.reg .h) s

/-- `RLC L` (R253). -/
def execRlcL (s : State) : Result :=
  shiftOperand .rlc (.reg .l) s

/-- `RLC (HL)` (R253). -/
def execRlcAtHl (s : State) : Result :=
  shiftOperand .rlc .atHl s

/-- `RLC A` (R253). -/
def execRlcA (s : State) : Result :=
  shiftOperand .rlc (.reg .a) s

/-- `RRC B` (R254). -/
def execRrcB (s : State) : Result :=
  shiftOperand .rrc (.reg .b) s

/-- `RRC C` (R254). -/
def execRrcC (s : State) : Result :=
  shiftOperand .rrc (.reg .c) s

/-- `RRC D` (R254). -/
def execRrcD (s : State) : Result :=
  shiftOperand .rrc (.reg .d) s

/-- `RRC E` (R254). -/
def execRrcE (s : State) : Result :=
  shiftOperand .rrc (.reg .e) s

/-- `RRC H` (R254). -/
def execRrcH (s : State) : Result :=
  shiftOperand .rrc (.reg .h) s

/-- `RRC L` (R254). -/
def execRrcL (s : State) : Result :=
  shiftOperand .rrc (.reg .l) s

/-- `RRC (HL)` (R254). -/
def execRrcAtHl (s : State) : Result :=
  shiftOperand .rrc .atHl s

/-- `RRC A` (R254). -/
def execRrcA (s : State) : Result :=
  shiftOperand .rrc (.reg .a) s

/-- `RL B` (R252). -/
def execRlB (s : State) : Result :=
  shiftOperand .rl (.reg .b) s

/-- `RL C` (R252). -/
def execRlC (s : State) : Result :=
  shiftOperand .rl (.reg .c) s

/-- `RL D` (R252). -/
def execRlD (s : State) : Result :=
  shiftOperand .rl (.reg .d) s

/-- `RL E` (R252). -/
def execRlE (s : State) : Result :=
  shiftOperand .rl (.reg .e) s

/-- `RL H` (R252). -/
def execRlH (s : State) : Result :=
  shiftOperand .rl (.reg .h) s

/-- `RL L` (R252). -/
def execRlL (s : State) : Result :=
  shiftOperand .rl (.reg .l) s

/-- `RL (HL)` (R252). -/
def execRlAtHl (s : State) : Result :=
  shiftOperand .rl .atHl s

/-- `RL A` (R252). -/
def execRlA (s : State) : Result :=
  shiftOperand .rl (.reg .a) s

/-- `RR B` (R255). -/
def execRrB (s : State) : Result :=
  shiftOperand .rr (.reg .b) s

/-- `RR C` (R255). -/
def execRrC (s : State) : Result :=
  shiftOperand .rr (.reg .c) s

/-- `RR D` (R255). -/
def execRrD (s : State) : Result :=
  shiftOperand .rr (.reg .d) s

/-- `RR E` (R255). -/
def execRrE (s : State) : Result :=
  shiftOperand .rr (.reg .e) s

/-- `RR H` (R255). -/
def execRrH (s : State) : Result :=
  shiftOperand .rr (.reg .h) s

/-- `RR L` (R255). -/
def execRrL (s : State) : Result :=
  shiftOperand .rr (.reg .l) s

/-- `RR (HL)` (R255). -/
def execRrAtHl (s : State) : Result :=
  shiftOperand .rr .atHl s

/-- `RR A` (R255). -/
def execRrA (s : State) : Result :=
  shiftOperand .rr (.reg .a) s

/-- `SLA B` (R256). -/
def execSlaB (s : State) : Result :=
  shiftOperand .sla (.reg .b) s

/-- `SLA C` (R256). -/
def execSlaC (s : State) : Result :=
  shiftOperand .sla (.reg .c) s

/-- `SLA D` (R256). -/
def execSlaD (s : State) : Result :=
  shiftOperand .sla (.reg .d) s

/-- `SLA E` (R256). -/
def execSlaE (s : State) : Result :=
  shiftOperand .sla (.reg .e) s

/-- `SLA H` (R256). -/
def execSlaH (s : State) : Result :=
  shiftOperand .sla (.reg .h) s

/-- `SLA L` (R256). -/
def execSlaL (s : State) : Result :=
  shiftOperand .sla (.reg .l) s

/-- `SLA (HL)` (R256). -/
def execSlaAtHl (s : State) : Result :=
  shiftOperand .sla .atHl s

/-- `SLA A` (R256). -/
def execSlaA (s : State) : Result :=
  shiftOperand .sla (.reg .a) s

/-- `SRA B` (R257). -/
def execSraB (s : State) : Result :=
  shiftOperand .sra (.reg .b) s

/-- `SRA C` (R257). -/
def execSraC (s : State) : Result :=
  shiftOperand .sra (.reg .c) s

/-- `SRA D` (R257). -/
def execSraD (s : State) : Result :=
  shiftOperand .sra (.reg .d) s

/-- `SRA E` (R257). -/
def execSraE (s : State) : Result :=
  shiftOperand .sra (.reg .e) s

/-- `SRA H` (R257). -/
def execSraH (s : State) : Result :=
  shiftOperand .sra (.reg .h) s

/-- `SRA L` (R257). -/
def execSraL (s : State) : Result :=
  shiftOperand .sra (.reg .l) s

/-- `SRA (HL)` (R257). -/
def execSraAtHl (s : State) : Result :=
  shiftOperand .sra .atHl s

/-- `SRA A` (R257). -/
def execSraA (s : State) : Result :=
  shiftOperand .sra (.reg .a) s

/-- `SWAP B` (R258). -/
def execSwapB (s : State) : Result :=
  shiftOperand .swap (.reg .b) s

/-- `SWAP C` (R258). -/
def execSwapC (s : State) : Result :=
  shiftOperand .swap (.reg .c) s

/-- `SWAP D` (R258). -/
def execSwapD (s : State) : Result :=
  shiftOperand .swap (.reg .d) s

/-- `SWAP E` (R258). -/
def execSwapE (s : State) : Result :=
  shiftOperand .swap (.reg .e) s

/-- `SWAP H` (R258). -/
def execSwapH (s : State) : Result :=
  shiftOperand .swap (.reg .h) s

/-- `SWAP L` (R258). -/
def execSwapL (s : State) : Result :=
  shiftOperand .swap (.reg .l) s

/-- `SWAP (HL)` (R258). -/
def execSwapAtHl (s : State) : Result :=
  shiftOperand .swap .atHl s

/-- `SWAP A` (R258). -/
def execSwapA (s : State) : Result :=
  shiftOperand .swap (.reg .a) s

/-- `SRL B` (R259). -/
def execSrlB (s : State) : Result :=
  shiftOperand .srl (.reg .b) s

/-- `SRL C` (R259). -/
def execSrlC (s : State) : Result :=
  shiftOperand .srl (.reg .c) s

/-- `SRL D` (R259). -/
def execSrlD (s : State) : Result :=
  shiftOperand .srl (.reg .d) s

/-- `SRL E` (R259). -/
def execSrlE (s : State) : Result :=
  shiftOperand .srl (.reg .e) s

/-- `SRL H` (R259). -/
def execSrlH (s : State) : Result :=
  shiftOperand .srl (.reg .h) s

/-- `SRL L` (R259). -/
def execSrlL (s : State) : Result :=
  shiftOperand .srl (.reg .l) s

/-- `SRL (HL)` (R259). -/
def execSrlAtHl (s : State) : Result :=
  shiftOperand .srl .atHl s

/-- `SRL A` (R259). -/
def execSrlA (s : State) : Result :=
  shiftOperand .srl (.reg .a) s

/-- `BIT 0,B` (R251). -/
def execBit0B (s : State) : Result :=
  testBit 0 (.reg .b) s

/-- `BIT 0,C` (R251). -/
def execBit0C (s : State) : Result :=
  testBit 0 (.reg .c) s

/-- `BIT 0,D` (R251). -/
def execBit0D (s : State) : Result :=
  testBit 0 (.reg .d) s

/-- `BIT 0,E` (R251). -/
def execBit0E (s : State) : Result :=
  testBit 0 (.reg .e) s

/-- `BIT 0,H` (R251). -/
def execBit0H (s : State) : Result :=
  testBit 0 (.reg .h) s

/-- `BIT 0,L` (R251). -/
def execBit0L (s : State) : Result :=
  testBit 0 (.reg .l) s

/-- `BIT 0,(HL)` (R251). -/
def execBit0AtHl (s : State) : Result :=
  testBit 0 .atHl s

/-- `BIT 0,A` (R251). -/
def execBit0A (s : State) : Result :=
  testBit 0 (.reg .a) s

/-- `BIT 1,B` (R251). -/
def execBit1B (s : State) : Result :=
  testBit 1 (.reg .b) s

/-- `BIT 1,C` (R251). -/
def execBit1C (s : State) : Result :=
  testBit 1 (.reg .c) s

/-- `BIT 1,D` (R251). -/
def execBit1D (s : State) : Result :=
  testBit 1 (.reg .d) s

/-- `BIT 1,E` (R251). -/
def execBit1E (s : State) : Result :=
  testBit 1 (.reg .e) s

/-- `BIT 1,H` (R251). -/
def execBit1H (s : State) : Result :=
  testBit 1 (.reg .h) s

/-- `BIT 1,L` (R251). -/
def execBit1L (s : State) : Result :=
  testBit 1 (.reg .l) s

/-- `BIT 1,(HL)` (R251). -/
def execBit1AtHl (s : State) : Result :=
  testBit 1 .atHl s

/-- `BIT 1,A` (R251). -/
def execBit1A (s : State) : Result :=
  testBit 1 (.reg .a) s

/-- `BIT 2,B` (R251). -/
def execBit2B (s : State) : Result :=
  testBit 2 (.reg .b) s

/-- `BIT 2,C` (R251). -/
def execBit2C (s : State) : Result :=
  testBit 2 (.reg .c) s

/-- `BIT 2,D` (R251). -/
def execBit2D (s : State) : Result :=
  testBit 2 (.reg .d) s

/-- `BIT 2,E` (R251). -/
def execBit2E (s : State) : Result :=
  testBit 2 (.reg .e) s

/-- `BIT 2,H` (R251). -/
def execBit2H (s : State) : Result :=
  testBit 2 (.reg .h) s

/-- `BIT 2,L` (R251). -/
def execBit2L (s : State) : Result :=
  testBit 2 (.reg .l) s

/-- `BIT 2,(HL)` (R251). -/
def execBit2AtHl (s : State) : Result :=
  testBit 2 .atHl s

/-- `BIT 2,A` (R251). -/
def execBit2A (s : State) : Result :=
  testBit 2 (.reg .a) s

/-- `BIT 3,B` (R251). -/
def execBit3B (s : State) : Result :=
  testBit 3 (.reg .b) s

/-- `BIT 3,C` (R251). -/
def execBit3C (s : State) : Result :=
  testBit 3 (.reg .c) s

/-- `BIT 3,D` (R251). -/
def execBit3D (s : State) : Result :=
  testBit 3 (.reg .d) s

/-- `BIT 3,E` (R251). -/
def execBit3E (s : State) : Result :=
  testBit 3 (.reg .e) s

/-- `BIT 3,H` (R251). -/
def execBit3H (s : State) : Result :=
  testBit 3 (.reg .h) s

/-- `BIT 3,L` (R251). -/
def execBit3L (s : State) : Result :=
  testBit 3 (.reg .l) s

/-- `BIT 3,(HL)` (R251). -/
def execBit3AtHl (s : State) : Result :=
  testBit 3 .atHl s

/-- `BIT 3,A` (R251). -/
def execBit3A (s : State) : Result :=
  testBit 3 (.reg .a) s

/-- `BIT 4,B` (R251). -/
def execBit4B (s : State) : Result :=
  testBit 4 (.reg .b) s

/-- `BIT 4,C` (R251). -/
def execBit4C (s : State) : Result :=
  testBit 4 (.reg .c) s

/-- `BIT 4,D` (R251). -/
def execBit4D (s : State) : Result :=
  testBit 4 (.reg .d) s

/-- `BIT 4,E` (R251). -/
def execBit4E (s : State) : Result :=
  testBit 4 (.reg .e) s

/-- `BIT 4,H` (R251). -/
def execBit4H (s : State) : Result :=
  testBit 4 (.reg .h) s

/-- `BIT 4,L` (R251). -/
def execBit4L (s : State) : Result :=
  testBit 4 (.reg .l) s

/-- `BIT 4,(HL)` (R251). -/
def execBit4AtHl (s : State) : Result :=
  testBit 4 .atHl s

/-- `BIT 4,A` (R251). -/
def execBit4A (s : State) : Result :=
  testBit 4 (.reg .a) s

/-- `BIT 5,B` (R251). -/
def execBit5B (s : State) : Result :=
  testBit 5 (.reg .b) s

/-- `BIT 5,C` (R251). -/
def execBit5C (s : State) : Result :=
  testBit 5 (.reg .c) s

/-- `BIT 5,D` (R251). -/
def execBit5D (s : State) : Result :=
  testBit 5 (.reg .d) s

/-- `BIT 5,E` (R251). -/
def execBit5E (s : State) : Result :=
  testBit 5 (.reg .e) s

/-- `BIT 5,H` (R251). -/
def execBit5H (s : State) : Result :=
  testBit 5 (.reg .h) s

/-- `BIT 5,L` (R251). -/
def execBit5L (s : State) : Result :=
  testBit 5 (.reg .l) s

/-- `BIT 5,(HL)` (R251). -/
def execBit5AtHl (s : State) : Result :=
  testBit 5 .atHl s

/-- `BIT 5,A` (R251). -/
def execBit5A (s : State) : Result :=
  testBit 5 (.reg .a) s

/-- `BIT 6,B` (R251). -/
def execBit6B (s : State) : Result :=
  testBit 6 (.reg .b) s

/-- `BIT 6,C` (R251). -/
def execBit6C (s : State) : Result :=
  testBit 6 (.reg .c) s

/-- `BIT 6,D` (R251). -/
def execBit6D (s : State) : Result :=
  testBit 6 (.reg .d) s

/-- `BIT 6,E` (R251). -/
def execBit6E (s : State) : Result :=
  testBit 6 (.reg .e) s

/-- `BIT 6,H` (R251). -/
def execBit6H (s : State) : Result :=
  testBit 6 (.reg .h) s

/-- `BIT 6,L` (R251). -/
def execBit6L (s : State) : Result :=
  testBit 6 (.reg .l) s

/-- `BIT 6,(HL)` (R251). -/
def execBit6AtHl (s : State) : Result :=
  testBit 6 .atHl s

/-- `BIT 6,A` (R251). -/
def execBit6A (s : State) : Result :=
  testBit 6 (.reg .a) s

/-- `BIT 7,B` (R251). -/
def execBit7B (s : State) : Result :=
  testBit 7 (.reg .b) s

/-- `BIT 7,C` (R251). -/
def execBit7C (s : State) : Result :=
  testBit 7 (.reg .c) s

/-- `BIT 7,D` (R251). -/
def execBit7D (s : State) : Result :=
  testBit 7 (.reg .d) s

/-- `BIT 7,E` (R251). -/
def execBit7E (s : State) : Result :=
  testBit 7 (.reg .e) s

/-- `BIT 7,H` (R251). -/
def execBit7H (s : State) : Result :=
  testBit 7 (.reg .h) s

/-- `BIT 7,L` (R251). -/
def execBit7L (s : State) : Result :=
  testBit 7 (.reg .l) s

/-- `BIT 7,(HL)` (R251). -/
def execBit7AtHl (s : State) : Result :=
  testBit 7 .atHl s

/-- `BIT 7,A` (R251). -/
def execBit7A (s : State) : Result :=
  testBit 7 (.reg .a) s

/-- `RES 0,B` (R260). -/
def execRes0B (s : State) : Result :=
  resetBit 0 (.reg .b) s

/-- `RES 0,C` (R260). -/
def execRes0C (s : State) : Result :=
  resetBit 0 (.reg .c) s

/-- `RES 0,D` (R260). -/
def execRes0D (s : State) : Result :=
  resetBit 0 (.reg .d) s

/-- `RES 0,E` (R260). -/
def execRes0E (s : State) : Result :=
  resetBit 0 (.reg .e) s

/-- `RES 0,H` (R260). -/
def execRes0H (s : State) : Result :=
  resetBit 0 (.reg .h) s

/-- `RES 0,L` (R260). -/
def execRes0L (s : State) : Result :=
  resetBit 0 (.reg .l) s

/-- `RES 0,(HL)` (R260). -/
def execRes0AtHl (s : State) : Result :=
  resetBit 0 .atHl s

/-- `RES 0,A` (R260). -/
def execRes0A (s : State) : Result :=
  resetBit 0 (.reg .a) s

/-- `RES 1,B` (R260). -/
def execRes1B (s : State) : Result :=
  resetBit 1 (.reg .b) s

/-- `RES 1,C` (R260). -/
def execRes1C (s : State) : Result :=
  resetBit 1 (.reg .c) s

/-- `RES 1,D` (R260). -/
def execRes1D (s : State) : Result :=
  resetBit 1 (.reg .d) s

/-- `RES 1,E` (R260). -/
def execRes1E (s : State) : Result :=
  resetBit 1 (.reg .e) s

/-- `RES 1,H` (R260). -/
def execRes1H (s : State) : Result :=
  resetBit 1 (.reg .h) s

/-- `RES 1,L` (R260). -/
def execRes1L (s : State) : Result :=
  resetBit 1 (.reg .l) s

/-- `RES 1,(HL)` (R260). -/
def execRes1AtHl (s : State) : Result :=
  resetBit 1 .atHl s

/-- `RES 1,A` (R260). -/
def execRes1A (s : State) : Result :=
  resetBit 1 (.reg .a) s

/-- `RES 2,B` (R260). -/
def execRes2B (s : State) : Result :=
  resetBit 2 (.reg .b) s

/-- `RES 2,C` (R260). -/
def execRes2C (s : State) : Result :=
  resetBit 2 (.reg .c) s

/-- `RES 2,D` (R260). -/
def execRes2D (s : State) : Result :=
  resetBit 2 (.reg .d) s

/-- `RES 2,E` (R260). -/
def execRes2E (s : State) : Result :=
  resetBit 2 (.reg .e) s

/-- `RES 2,H` (R260). -/
def execRes2H (s : State) : Result :=
  resetBit 2 (.reg .h) s

/-- `RES 2,L` (R260). -/
def execRes2L (s : State) : Result :=
  resetBit 2 (.reg .l) s

/-- `RES 2,(HL)` (R260). -/
def execRes2AtHl (s : State) : Result :=
  resetBit 2 .atHl s

/-- `RES 2,A` (R260). -/
def execRes2A (s : State) : Result :=
  resetBit 2 (.reg .a) s

/-- `RES 3,B` (R260). -/
def execRes3B (s : State) : Result :=
  resetBit 3 (.reg .b) s

/-- `RES 3,C` (R260). -/
def execRes3C (s : State) : Result :=
  resetBit 3 (.reg .c) s

/-- `RES 3,D` (R260). -/
def execRes3D (s : State) : Result :=
  resetBit 3 (.reg .d) s

/-- `RES 3,E` (R260). -/
def execRes3E (s : State) : Result :=
  resetBit 3 (.reg .e) s

/-- `RES 3,H` (R260). -/
def execRes3H (s : State) : Result :=
  resetBit 3 (.reg .h) s

/-- `RES 3,L` (R260). -/
def execRes3L (s : State) : Result :=
  resetBit 3 (.reg .l) s

/-- `RES 3,(HL)` (R260). -/
def execRes3AtHl (s : State) : Result :=
  resetBit 3 .atHl s

/-- `RES 3,A` (R260). -/
def execRes3A (s : State) : Result :=
  resetBit 3 (.reg .a) s

/-- `RES 4,B` (R260). -/
def execRes4B (s : State) : Result :=
  resetBit 4 (.reg .b) s

/-- `RES 4,C` (R260). -/
def execRes4C (s : State) : Result :=
  resetBit 4 (.reg .c) s

/-- `RES 4,D` (R260). -/
def execRes4D (s : State) : Result :=
  resetBit 4 (.reg .d) s

/-- `RES 4,E` (R260). -/
def execRes4E (s : State) : Result :=
  resetBit 4 (.reg .e) s

/-- `RES 4,H` (R260). -/
def execRes4H (s : State) : Result :=
  resetBit 4 (.reg .h) s

/-- `RES 4,L` (R260). -/
def execRes4L (s : State) : Result :=
  resetBit 4 (.reg .l) s

/-- `RES 4,(HL)` (R260). -/
def execRes4AtHl (s : State) : Result :=
  resetBit 4 .atHl s

/-- `RES 4,A` (R260). -/
def execRes4A (s : State) : Result :=
  resetBit 4 (.reg .a) s

/-- `RES 5,B` (R260). -/
def execRes5B (s : State) : Result :=
  resetBit 5 (.reg .b) s

/-- `RES 5,C` (R260). -/
def execRes5C (s : State) : Result :=
  resetBit 5 (.reg .c) s

/-- `RES 5,D` (R260). -/
def execRes5D (s : State) : Result :=
  resetBit 5 (.reg .d) s

/-- `RES 5,E` (R260). -/
def execRes5E (s : State) : Result :=
  resetBit 5 (.reg .e) s

/-- `RES 5,H` (R260). -/
def execRes5H (s : State) : Result :=
  resetBit 5 (.reg .h) s

/-- `RES 5,L` (R260). -/
def execRes5L (s : State) : Result :=
  resetBit 5 (.reg .l) s

/-- `RES 5,(HL)` (R260). -/
def execRes5AtHl (s : State) : Result :=
  resetBit 5 .atHl s

/-- `RES 5,A` (R260). -/
def execRes5A (s : State) : Result :=
  resetBit 5 (.reg .a) s

/-- `RES 6,B` (R260). -/
def execRes6B (s : State) : Result :=
  resetBit 6 (.reg .b) s

/-- `RES 6,C` (R260). -/
def execRes6C (s : State) : Result :=
  resetBit 6 (.reg .c) s

/-- `RES 6,D` (R260). -/
def execRes6D (s : State) : Result :=
  resetBit 6 (.reg .d) s

/-- `RES 6,E` (R260). -/
def execRes6E (s : State) : Result :=
  resetBit 6 (.reg .e) s

/-- `RES 6,H` (R260). -/
def execRes6H (s : State) : Result :=
  resetBit 6 (.reg .h) s

/-- `RES 6,L` (R260). -/
def execRes6L (s : State) : Result :=
  resetBit 6 (.reg .l) s

/-- `RES 6,(HL)` (R260). -/
def execRes6AtHl (s : State) : Result :=
  resetBit 6 .atHl s

/-- `RES 6,A` (R260). -/
def execRes6A (s : State) : Result :=
  resetBit 6 (.reg .a) s

/-- `RES 7,B` (R260). -/
def execRes7B (s : State) : Result :=
  resetBit 7 (.reg .b) s

/-- `RES 7,C` (R260). -/
def execRes7C (s : State) : Result :=
  resetBit 7 (.reg .c) s

/-- `RES 7,D` (R260). -/
def execRes7D (s : State) : Result :=
  resetBit 7 (.reg .d) s

/-- `RES 7,E` (R260). -/
def execRes7E (s : State) : Result :=
  resetBit 7 (.reg .e) s

/-- `RES 7,H` (R260). -/
def execRes7H (s : State) : Result :=
  resetBit 7 (.reg .h) s

/-- `RES 7,L` (R260). -/
def execRes7L (s : State) : Result :=
  resetBit 7 (.reg .l) s

/-- `RES 7,(HL)` (R260). -/
def execRes7AtHl (s : State) : Result :=
  resetBit 7 .atHl s

/-- `RES 7,A` (R260). -/
def execRes7A (s : State) : Result :=
  resetBit 7 (.reg .a) s

/-- `SET 0,B` (R261). -/
def execSet0B (s : State) : Result :=
  setBit 0 (.reg .b) s

/-- `SET 0,C` (R261). -/
def execSet0C (s : State) : Result :=
  setBit 0 (.reg .c) s

/-- `SET 0,D` (R261). -/
def execSet0D (s : State) : Result :=
  setBit 0 (.reg .d) s

/-- `SET 0,E` (R261). -/
def execSet0E (s : State) : Result :=
  setBit 0 (.reg .e) s

/-- `SET 0,H` (R261). -/
def execSet0H (s : State) : Result :=
  setBit 0 (.reg .h) s

/-- `SET 0,L` (R261). -/
def execSet0L (s : State) : Result :=
  setBit 0 (.reg .l) s

/-- `SET 0,(HL)` (R261). -/
def execSet0AtHl (s : State) : Result :=
  setBit 0 .atHl s

/-- `SET 0,A` (R261). -/
def execSet0A (s : State) : Result :=
  setBit 0 (.reg .a) s

/-- `SET 1,B` (R261). -/
def execSet1B (s : State) : Result :=
  setBit 1 (.reg .b) s

/-- `SET 1,C` (R261). -/
def execSet1C (s : State) : Result :=
  setBit 1 (.reg .c) s

/-- `SET 1,D` (R261). -/
def execSet1D (s : State) : Result :=
  setBit 1 (.reg .d) s

/-- `SET 1,E` (R261). -/
def execSet1E (s : State) : Result :=
  setBit 1 (.reg .e) s

/-- `SET 1,H` (R261). -/
def execSet1H (s : State) : Result :=
  setBit 1 (.reg .h) s

/-- `SET 1,L` (R261). -/
def execSet1L (s : State) : Result :=
  setBit 1 (.reg .l) s

/-- `SET 1,(HL)` (R261). -/
def execSet1AtHl (s : State) : Result :=
  setBit 1 .atHl s

/-- `SET 1,A` (R261). -/
def execSet1A (s : State) : Result :=
  setBit 1 (.reg .a) s

/-- `SET 2,B` (R261). -/
def execSet2B (s : State) : Result :=
  setBit 2 (.reg .b) s

/-- `SET 2,C` (R261). -/
def execSet2C (s : State) : Result :=
  setBit 2 (.reg .c) s

/-- `SET 2,D` (R261). -/
def execSet2D (s : State) : Result :=
  setBit 2 (.reg .d) s

/-- `SET 2,E` (R261). -/
def execSet2E (s : State) : Result :=
  setBit 2 (.reg .e) s

/-- `SET 2,H` (R261). -/
def execSet2H (s : State) : Result :=
  setBit 2 (.reg .h) s

/-- `SET 2,L` (R261). -/
def execSet2L (s : State) : Result :=
  setBit 2 (.reg .l) s

/-- `SET 2,(HL)` (R261). -/
def execSet2AtHl (s : State) : Result :=
  setBit 2 .atHl s

/-- `SET 2,A` (R261). -/
def execSet2A (s : State) : Result :=
  setBit 2 (.reg .a) s

/-- `SET 3,B` (R261). -/
def execSet3B (s : State) : Result :=
  setBit 3 (.reg .b) s

/-- `SET 3,C` (R261). -/
def execSet3C (s : State) : Result :=
  setBit 3 (.reg .c) s

/-- `SET 3,D` (R261). -/
def execSet3D (s : State) : Result :=
  setBit 3 (.reg .d) s

/-- `SET 3,E` (R261). -/
def execSet3E (s : State) : Result :=
  setBit 3 (.reg .e) s

/-- `SET 3,H` (R261). -/
def execSet3H (s : State) : Result :=
  setBit 3 (.reg .h) s

/-- `SET 3,L` (R261). -/
def execSet3L (s : State) : Result :=
  setBit 3 (.reg .l) s

/-- `SET 3,(HL)` (R261). -/
def execSet3AtHl (s : State) : Result :=
  setBit 3 .atHl s

/-- `SET 3,A` (R261). -/
def execSet3A (s : State) : Result :=
  setBit 3 (.reg .a) s

/-- `SET 4,B` (R261). -/
def execSet4B (s : State) : Result :=
  setBit 4 (.reg .b) s

/-- `SET 4,C` (R261). -/
def execSet4C (s : State) : Result :=
  setBit 4 (.reg .c) s

/-- `SET 4,D` (R261). -/
def execSet4D (s : State) : Result :=
  setBit 4 (.reg .d) s

/-- `SET 4,E` (R261). -/
def execSet4E (s : State) : Result :=
  setBit 4 (.reg .e) s

/-- `SET 4,H` (R261). -/
def execSet4H (s : State) : Result :=
  setBit 4 (.reg .h) s

/-- `SET 4,L` (R261). -/
def execSet4L (s : State) : Result :=
  setBit 4 (.reg .l) s

/-- `SET 4,(HL)` (R261). -/
def execSet4AtHl (s : State) : Result :=
  setBit 4 .atHl s

/-- `SET 4,A` (R261). -/
def execSet4A (s : State) : Result :=
  setBit 4 (.reg .a) s

/-- `SET 5,B` (R261). -/
def execSet5B (s : State) : Result :=
  setBit 5 (.reg .b) s

/-- `SET 5,C` (R261). -/
def execSet5C (s : State) : Result :=
  setBit 5 (.reg .c) s

/-- `SET 5,D` (R261). -/
def execSet5D (s : State) : Result :=
  setBit 5 (.reg .d) s

/-- `SET 5,E` (R261). -/
def execSet5E (s : State) : Result :=
  setBit 5 (.reg .e) s

/-- `SET 5,H` (R261). -/
def execSet5H (s : State) : Result :=
  setBit 5 (.reg .h) s

/-- `SET 5,L` (R261). -/
def execSet5L (s : State) : Result :=
  setBit 5 (.reg .l) s

/-- `SET 5,(HL)` (R261). -/
def execSet5AtHl (s : State) : Result :=
  setBit 5 .atHl s

/-- `SET 5,A` (R261). -/
def execSet5A (s : State) : Result :=
  setBit 5 (.reg .a) s

/-- `SET 6,B` (R261). -/
def execSet6B (s : State) : Result :=
  setBit 6 (.reg .b) s

/-- `SET 6,C` (R261). -/
def execSet6C (s : State) : Result :=
  setBit 6 (.reg .c) s

/-- `SET 6,D` (R261). -/
def execSet6D (s : State) : Result :=
  setBit 6 (.reg .d) s

/-- `SET 6,E` (R261). -/
def execSet6E (s : State) : Result :=
  setBit 6 (.reg .e) s

/-- `SET 6,H` (R261). -/
def execSet6H (s : State) : Result :=
  setBit 6 (.reg .h) s

/-- `SET 6,L` (R261). -/
def execSet6L (s : State) : Result :=
  setBit 6 (.reg .l) s

/-- `SET 6,(HL)` (R261). -/
def execSet6AtHl (s : State) : Result :=
  setBit 6 .atHl s

/-- `SET 6,A` (R261). -/
def execSet6A (s : State) : Result :=
  setBit 6 (.reg .a) s

/-- `SET 7,B` (R261). -/
def execSet7B (s : State) : Result :=
  setBit 7 (.reg .b) s

/-- `SET 7,C` (R261). -/
def execSet7C (s : State) : Result :=
  setBit 7 (.reg .c) s

/-- `SET 7,D` (R261). -/
def execSet7D (s : State) : Result :=
  setBit 7 (.reg .d) s

/-- `SET 7,E` (R261). -/
def execSet7E (s : State) : Result :=
  setBit 7 (.reg .e) s

/-- `SET 7,H` (R261). -/
def execSet7H (s : State) : Result :=
  setBit 7 (.reg .h) s

/-- `SET 7,L` (R261). -/
def execSet7L (s : State) : Result :=
  setBit 7 (.reg .l) s

/-- `SET 7,(HL)` (R261). -/
def execSet7AtHl (s : State) : Result :=
  setBit 7 .atHl s

/-- `SET 7,A` (R261). -/
def execSet7A (s : State) : Result :=
  setBit 7 (.reg .a) s

end Sys2Proof.Machine
end

