-- ==== Sys2Proof/Machine/Loads.lean ====
section
/-! DEFINITION. Loads and stores (spec/41_loads.md R140 to R160). -/

namespace Sys2Proof.Machine

/-- `x[r] <- x[r']` (R143). -/
def copyReg (dst src : Reg8) (s : State) : Result := .next (s.setReg dst (s.reg src))

/-- `x[r] <- MemRead(a, 1)` (R144, R151, R153, R155, R157). -/
def loadReg (a : Word) (r : Reg8) (s : State) : Result := s.load a fun v => .next (s.setReg r v)

/-- `MemWrite(a, 1, x[r])` (R145, R150, R152, R154, R156). -/
def storeReg (a : Word) (r : Reg8) (s : State) : Result := s.store a (s.reg r) .next

/-- `x[rr] <- nn` (R140). -/
def loadPairImm (p : PairSp) (nn : Word) (s : State) : Result := .next (s.setPairSp p nn)

/-- `MemWrite(x[HL], 1, x[A]); x[HL] <- x[HL] + d` (R146 with d = 1, R147 with d = -1). -/
def storeAStep (d : Word) (s : State) : Result :=
  s.store s.hl s.a fun t => .next (t.setHl (t.hl + d))

/-- `x[A] <- MemRead(x[HL], 1); x[HL] <- x[HL] + d` (R148 with d = 1, R149 with d = -1). -/
def loadAStep (d : Word) (s : State) : Result :=
  s.load s.hl fun v => .next ((s.setReg .a v).setHl (s.hl + d))

/-- `x[HL] <- x[SP] + sext16(e)`, with the flags of the low-byte addition (R160). -/
def loadHlSpOffset (e : Byte) (s : State) : Result :=
  .next ((s.spOffsetFlags s.sp e).setHl (s.spOffset e))

/-- `LD BC,nn` (R140). -/
def execLdBcNn (nn : Word) (s : State) : Result :=
  loadPairImm .bc nn s

/-- `LD (BC),A` (R150). -/
def execLdAtBcA (s : State) : Result :=
  storeReg s.bc .a s

/-- `LD B,n` (R141). -/
def execLdBN (n : Byte) (s : State) : Result :=
  .next (s.setReg .b n)

/-- `LD (nn),SP` (R158). -/
def execLdAtNnSp (nn : Word) (s : State) : Result :=
  s.storeWord nn s.sp .next

/-- `LD A,(BC)` (R151). -/
def execLdAAtBc (s : State) : Result :=
  loadReg s.bc .a s

/-- `LD C,n` (R141). -/
def execLdCN (n : Byte) (s : State) : Result :=
  .next (s.setReg .c n)

/-- `LD DE,nn` (R140). -/
def execLdDeNn (nn : Word) (s : State) : Result :=
  loadPairImm .de nn s

/-- `LD (DE),A` (R150). -/
def execLdAtDeA (s : State) : Result :=
  storeReg s.de .a s

/-- `LD D,n` (R141). -/
def execLdDN (n : Byte) (s : State) : Result :=
  .next (s.setReg .d n)

/-- `LD A,(DE)` (R151). -/
def execLdAAtDe (s : State) : Result :=
  loadReg s.de .a s

/-- `LD E,n` (R141). -/
def execLdEN (n : Byte) (s : State) : Result :=
  .next (s.setReg .e n)

/-- `LD HL,nn` (R140). -/
def execLdHlNn (nn : Word) (s : State) : Result :=
  loadPairImm .hl nn s

/-- `LD (HL+),A` (R146). -/
def execLdAtHlIncA (s : State) : Result :=
  storeAStep 1#16 s

/-- `LD H,n` (R141). -/
def execLdHN (n : Byte) (s : State) : Result :=
  .next (s.setReg .h n)

/-- `LD A,(HL+)` (R148). -/
def execLdAAtHlInc (s : State) : Result :=
  loadAStep 1#16 s

/-- `LD L,n` (R141). -/
def execLdLN (n : Byte) (s : State) : Result :=
  .next (s.setReg .l n)

/-- `LD SP,nn` (R140). -/
def execLdSpNn (nn : Word) (s : State) : Result :=
  loadPairImm .sp nn s

/-- `LD (HL-),A` (R147). -/
def execLdAtHlDecA (s : State) : Result :=
  storeAStep (-1#16) s

/-- `LD (HL),n` (R142). -/
def execLdAtHlN (n : Byte) (s : State) : Result :=
  s.store s.hl n .next

/-- `LD A,(HL-)` (R149). -/
def execLdAAtHlDec (s : State) : Result :=
  loadAStep (-1#16) s

/-- `LD A,n` (R141). -/
def execLdAN (n : Byte) (s : State) : Result :=
  .next (s.setReg .a n)

/-- `LD B,B` (R143). -/
def execLdBB (s : State) : Result :=
  copyReg .b .b s

/-- `LD B,C` (R143). -/
def execLdBC (s : State) : Result :=
  copyReg .b .c s

/-- `LD B,D` (R143). -/
def execLdBD (s : State) : Result :=
  copyReg .b .d s

/-- `LD B,E` (R143). -/
def execLdBE (s : State) : Result :=
  copyReg .b .e s

/-- `LD B,H` (R143). -/
def execLdBH (s : State) : Result :=
  copyReg .b .h s

/-- `LD B,L` (R143). -/
def execLdBL (s : State) : Result :=
  copyReg .b .l s

/-- `LD B,(HL)` (R144). -/
def execLdBAtHl (s : State) : Result :=
  loadReg s.hl .b s

/-- `LD B,A` (R143). -/
def execLdBA (s : State) : Result :=
  copyReg .b .a s

/-- `LD C,B` (R143). -/
def execLdCB (s : State) : Result :=
  copyReg .c .b s

/-- `LD C,C` (R143). -/
def execLdCC (s : State) : Result :=
  copyReg .c .c s

/-- `LD C,D` (R143). -/
def execLdCD (s : State) : Result :=
  copyReg .c .d s

/-- `LD C,E` (R143). -/
def execLdCE (s : State) : Result :=
  copyReg .c .e s

/-- `LD C,H` (R143). -/
def execLdCH (s : State) : Result :=
  copyReg .c .h s

/-- `LD C,L` (R143). -/
def execLdCL (s : State) : Result :=
  copyReg .c .l s

/-- `LD C,(HL)` (R144). -/
def execLdCAtHl (s : State) : Result :=
  loadReg s.hl .c s

/-- `LD C,A` (R143). -/
def execLdCA (s : State) : Result :=
  copyReg .c .a s

/-- `LD D,B` (R143). -/
def execLdDB (s : State) : Result :=
  copyReg .d .b s

/-- `LD D,C` (R143). -/
def execLdDC (s : State) : Result :=
  copyReg .d .c s

/-- `LD D,D` (R143). -/
def execLdDD (s : State) : Result :=
  copyReg .d .d s

/-- `LD D,E` (R143). -/
def execLdDE (s : State) : Result :=
  copyReg .d .e s

/-- `LD D,H` (R143). -/
def execLdDH (s : State) : Result :=
  copyReg .d .h s

/-- `LD D,L` (R143). -/
def execLdDL (s : State) : Result :=
  copyReg .d .l s

/-- `LD D,(HL)` (R144). -/
def execLdDAtHl (s : State) : Result :=
  loadReg s.hl .d s

/-- `LD D,A` (R143). -/
def execLdDA (s : State) : Result :=
  copyReg .d .a s

/-- `LD E,B` (R143). -/
def execLdEB (s : State) : Result :=
  copyReg .e .b s

/-- `LD E,C` (R143). -/
def execLdEC (s : State) : Result :=
  copyReg .e .c s

/-- `LD E,D` (R143). -/
def execLdED (s : State) : Result :=
  copyReg .e .d s

/-- `LD E,E` (R143). -/
def execLdEE (s : State) : Result :=
  copyReg .e .e s

/-- `LD E,H` (R143). -/
def execLdEH (s : State) : Result :=
  copyReg .e .h s

/-- `LD E,L` (R143). -/
def execLdEL (s : State) : Result :=
  copyReg .e .l s

/-- `LD E,(HL)` (R144). -/
def execLdEAtHl (s : State) : Result :=
  loadReg s.hl .e s

/-- `LD E,A` (R143). -/
def execLdEA (s : State) : Result :=
  copyReg .e .a s

/-- `LD H,B` (R143). -/
def execLdHB (s : State) : Result :=
  copyReg .h .b s

/-- `LD H,C` (R143). -/
def execLdHC (s : State) : Result :=
  copyReg .h .c s

/-- `LD H,D` (R143). -/
def execLdHD (s : State) : Result :=
  copyReg .h .d s

/-- `LD H,E` (R143). -/
def execLdHE (s : State) : Result :=
  copyReg .h .e s

/-- `LD H,H` (R143). -/
def execLdHH (s : State) : Result :=
  copyReg .h .h s

/-- `LD H,L` (R143). -/
def execLdHL (s : State) : Result :=
  copyReg .h .l s

/-- `LD H,(HL)` (R144). -/
def execLdHAtHl (s : State) : Result :=
  loadReg s.hl .h s

/-- `LD H,A` (R143). -/
def execLdHA (s : State) : Result :=
  copyReg .h .a s

/-- `LD L,B` (R143). -/
def execLdLB (s : State) : Result :=
  copyReg .l .b s

/-- `LD L,C` (R143). -/
def execLdLC (s : State) : Result :=
  copyReg .l .c s

/-- `LD L,D` (R143). -/
def execLdLD (s : State) : Result :=
  copyReg .l .d s

/-- `LD L,E` (R143). -/
def execLdLE (s : State) : Result :=
  copyReg .l .e s

/-- `LD L,H` (R143). -/
def execLdLH (s : State) : Result :=
  copyReg .l .h s

/-- `LD L,L` (R143). -/
def execLdLL (s : State) : Result :=
  copyReg .l .l s

/-- `LD L,(HL)` (R144). -/
def execLdLAtHl (s : State) : Result :=
  loadReg s.hl .l s

/-- `LD L,A` (R143). -/
def execLdLA (s : State) : Result :=
  copyReg .l .a s

/-- `LD (HL),B` (R145). -/
def execLdAtHlB (s : State) : Result :=
  storeReg s.hl .b s

/-- `LD (HL),C` (R145). -/
def execLdAtHlC (s : State) : Result :=
  storeReg s.hl .c s

/-- `LD (HL),D` (R145). -/
def execLdAtHlD (s : State) : Result :=
  storeReg s.hl .d s

/-- `LD (HL),E` (R145). -/
def execLdAtHlE (s : State) : Result :=
  storeReg s.hl .e s

/-- `LD (HL),H` (R145). -/
def execLdAtHlH (s : State) : Result :=
  storeReg s.hl .h s

/-- `LD (HL),L` (R145). -/
def execLdAtHlL (s : State) : Result :=
  storeReg s.hl .l s

/-- `LD (HL),A` (R145). -/
def execLdAtHlA (s : State) : Result :=
  storeReg s.hl .a s

/-- `LD A,B` (R143). -/
def execLdAB (s : State) : Result :=
  copyReg .a .b s

/-- `LD A,C` (R143). -/
def execLdAC (s : State) : Result :=
  copyReg .a .c s

/-- `LD A,D` (R143). -/
def execLdAD (s : State) : Result :=
  copyReg .a .d s

/-- `LD A,E` (R143). -/
def execLdAE (s : State) : Result :=
  copyReg .a .e s

/-- `LD A,H` (R143). -/
def execLdAH (s : State) : Result :=
  copyReg .a .h s

/-- `LD A,L` (R143). -/
def execLdAL (s : State) : Result :=
  copyReg .a .l s

/-- `LD A,(HL)` (R144). -/
def execLdAAtHl (s : State) : Result :=
  loadReg s.hl .a s

/-- `LD A,A` (R143). -/
def execLdAA (s : State) : Result :=
  copyReg .a .a s

/-- `LDH (n),A` (R154). -/
def execLdhAtNA (n : Byte) (s : State) : Result :=
  storeReg (highPage n) .a s

/-- `LD (C),A` (R156). -/
def execLdAtCA (s : State) : Result :=
  storeReg (highPage s.c) .a s

/-- `LD (nn),A` (R152). -/
def execLdAtNnA (nn : Word) (s : State) : Result :=
  storeReg nn .a s

/-- `LDH A,(n)` (R155). -/
def execLdhAAtN (n : Byte) (s : State) : Result :=
  loadReg (highPage n) .a s

/-- `LD A,(C)` (R157). -/
def execLdAAtC (s : State) : Result :=
  loadReg (highPage s.c) .a s

/-- `LD HL,SP+e` (R160). -/
def execLdHlSpE (e : Byte) (s : State) : Result :=
  loadHlSpOffset e s

/-- `LD SP,HL` (R159). -/
def execLdSpHl (s : State) : Result :=
  .next (s.setSp s.hl)

/-- `LD A,(nn)` (R153). -/
def execLdAAtNn (nn : Word) (s : State) : Result :=
  loadReg nn .a s

end Sys2Proof.Machine
end

