-- ==== Sys2Proof/Machine/Misc.lean ====
section
/-! DEFINITION. NOP, and the sixteen base opcodes that raise UnimplementedOpcode in both presets
(spec/48_misc.md R320 to R323). Raising is a next state: the run status is Faulted and pc is past the
opcode byte (spec/60_exceptions.md R343, log 6). -/

namespace Sys2Proof.Machine

/-- `raise UnimplementedOpcode(false, op, address)`, at a state whose pc is past the one opcode byte,
so that the instruction's address is pc - 1 (R322, R323, R341). -/
def raiseBase (op : Byte) (s : State) : Result :=
  .next (s.raiseUnimplemented false op (s.pc - 1#16))

/-- `NOP` (R320). -/
def execNop (s : State) : Result :=
  .next s

/-- `STOP` (R322). -/
def execStop (s : State) : Result :=
  raiseBase 0x10#8 s

/-- `HALT` (R322). -/
def execHalt (s : State) : Result :=
  raiseBase 0x76#8 s

/-- Byte 0xD3, not an instruction (R323). -/
def execIllegalD3 (s : State) : Result :=
  raiseBase 0xD3#8 s

/-- `RETI` (R322). -/
def execReti (s : State) : Result :=
  raiseBase 0xD9#8 s

/-- Byte 0xDB, not an instruction (R323). -/
def execIllegalDB (s : State) : Result :=
  raiseBase 0xDB#8 s

/-- Byte 0xDD, not an instruction (R323). -/
def execIllegalDD (s : State) : Result :=
  raiseBase 0xDD#8 s

/-- Byte 0xE3, not an instruction (R323). -/
def execIllegalE3 (s : State) : Result :=
  raiseBase 0xE3#8 s

/-- Byte 0xE4, not an instruction (R323). -/
def execIllegalE4 (s : State) : Result :=
  raiseBase 0xE4#8 s

/-- Byte 0xEB, not an instruction (R323). -/
def execIllegalEB (s : State) : Result :=
  raiseBase 0xEB#8 s

/-- Byte 0xEC, not an instruction (R323). -/
def execIllegalEC (s : State) : Result :=
  raiseBase 0xEC#8 s

/-- Byte 0xED, not an instruction (R323). -/
def execIllegalED (s : State) : Result :=
  raiseBase 0xED#8 s

/-- `DI` (R322). -/
def execDi (s : State) : Result :=
  raiseBase 0xF3#8 s

/-- Byte 0xF4, not an instruction (R323). -/
def execIllegalF4 (s : State) : Result :=
  raiseBase 0xF4#8 s

/-- `EI` (R322). -/
def execEi (s : State) : Result :=
  raiseBase 0xFB#8 s

/-- Byte 0xFC, not an instruction (R323). -/
def execIllegalFC (s : State) : Result :=
  raiseBase 0xFC#8 s

/-- Byte 0xFD, not an instruction (R323). -/
def execIllegalFD (s : State) : Result :=
  raiseBase 0xFD#8 s

end Sys2Proof.Machine
end

