-- ==== Sys2Proof/Machine/RotateA.lean ====
section
/-! DEFINITION. Accumulator rotates (spec/44_rotate_a.md R240 to R243): the data path of the
extended rotate, with Z cleared instead of computed. -/

namespace Sys2Proof.Machine

/-- Rotate A; Z, N and H cleared, C the bit rotated out (R240 to R243). -/
def rotateA (op : ShiftOp) (s : State) : Result :=
  let x := shiftResult op s.a (s.flag .c)
  .next ({ s with a := x.1 }.setZNHC false false false x.2)

/-- `RLCA` (R240). -/
def execRlca (s : State) : Result :=
  rotateA .rlc s

/-- `RRCA` (R241). -/
def execRrca (s : State) : Result :=
  rotateA .rrc s

/-- `RLA` (R242). -/
def execRla (s : State) : Result :=
  rotateA .rl s

/-- `RRA` (R243). -/
def execRra (s : State) : Result :=
  rotateA .rr s

end Sys2Proof.Machine
end

