-- ==== Sys2Proof/Machine/Stack.lean ====
section
/-! DEFINITION. Stack instructions (spec/47_stack.md R310, R311). -/

namespace Sys2Proof.Machine

/-- PUSH rr (R310). -/
def pushPair (p : PairAf) (s : State) : Result := s.push16 (s.pairAf p) .next

/-- POP rr (R311). -/
def popPair (p : PairAf) (s : State) : Result := s.pop16 fun v t => .next (t.setPairAf p v)

/-- `POP BC` (R311). -/
def execPopBc (s : State) : Result :=
  popPair .bc s

/-- `PUSH BC` (R310). -/
def execPushBc (s : State) : Result :=
  pushPair .bc s

/-- `POP DE` (R311). -/
def execPopDe (s : State) : Result :=
  popPair .de s

/-- `PUSH DE` (R310). -/
def execPushDe (s : State) : Result :=
  pushPair .de s

/-- `POP HL` (R311). -/
def execPopHl (s : State) : Result :=
  popPair .hl s

/-- `PUSH HL` (R310). -/
def execPushHl (s : State) : Result :=
  pushPair .hl s

/-- `POP AF` (R311). -/
def execPopAf (s : State) : Result :=
  popPair .af s

/-- `PUSH AF` (R310). -/
def execPushAf (s : State) : Result :=
  pushPair .af s

end Sys2Proof.Machine
end

