-- ==== Sys2Proof/Machine/Fetch.lean ====
section
/-! DEFINITION. The part of a step before the instruction's own rule (spec/30_encoding.md R100): the
overlay switch, the opcode fetch, the preset's test, the operand fetch. Every rule of the family
files fetches its operand bytes before anything else it does (spec/70_reset_and_hazards.md R389), so
they are fetched here (log 7). -/

namespace Sys2Proof.Machine

/-- Fetch the operand bytes of a base row and run its instruction (R112). -/
def State.fetchOperands (s : State) (row : Row) (k : Instr → State → Result) : Result :=
  match row with
  | .op i => k i s
  | .opN f => s.fetch8 fun n t => k (f n) t
  | .opNN f => s.fetch16 fun nn t => k (f nn) t

/-- `step()` of R100, with the instruction's own rule as `k`. -/
def State.fetchInstr (s : State) (k : Instr → State → Result) : Result :=
  s.switchAtStepStart.fetch8 fun op s1 =>
    let s2 := s1.switchAfterOpcodeFetch
    if op = 0xCB#8 then
      s2.fetch8 fun op2 s3 =>
        if implExt s.params.impl op2 then k (extRow op2) s3
        else .next (s3.raiseUnimplemented true op2 s.pc)
    else if implBase s.params.impl op then s2.fetchOperands (baseRow op) k
    else .next (s2.raiseUnimplemented false op s.pc)

/-- Place a byte where a fetch at an address reads it: in the boot image while the overlay answers
there, else in the buffer the router gives, growing a cartridge that is too short. No address beyond
a region is made to exist. -/
def Memory.placeByte (m : Memory) (a : Word) (v : Byte) : Memory :=
  if m.bootOverlayActive && decide (a.toNat ≤ 0xFF) then
    { m with boot := (m.boot ++ List.replicate (a.toNat + 1 - m.boot.length) 0#8).set a.toNat v }
  else if a.toNat ≤ 0x7FFF then
    { m with cartLen := max m.cartLen (a.toNat + 1), cart := cellsSet m.cart a.toNat v }
  else (m.writeByte a v).getD m

/-- Place a byte sequence from an address on. -/
def Memory.placeBytes (m : Memory) (a : Word) (bs : List Byte) : Memory :=
  match bs with
  | [] => m
  | v :: rest => (m.placeByte a v).placeBytes (a + 1#16) rest

/-- The state with instruction bytes loaded at pc, on a core that runs (log 4). -/
def State.placeInstr (s : State) (bs : List Byte) : State :=
  { s with mem := s.mem.placeBytes s.pc bs, status := .running }

end Sys2Proof.Machine
end

