-- ==== Sys2Proof/Machine/Step.lean ====
section
/-! DEFINITION. One step (spec/30_encoding.md R100; spec/10_state.md R47). -/

namespace Sys2Proof.Machine

/-- `step()`: one whole instruction on a Running core. A Faulted core has no step (R47, R361). -/
def step (s : State) : Host.Outcome State Fault Refusal :=
  match s.status with
  | .running => s.fetchInstr exec
  | .faulted e => .fault (.steppedWhileFaulted e)

/-- `s` with the instruction of a table word stored where the next step fetches it: the loading of a
program image, from outside the machine (log 4). -/
def State.withFetchWord (s : State) (nbits w : Nat) : State := s.placeInstr (tableBytes nbits w)

end Sys2Proof.Machine
end

