-- ==== Sys2Proof/Machine/Inspect.lean ====
section
/-! DEFINITION. What the host can read between steps (spec/60_exceptions.md R360; spec/00_scope.md
R6). An inspection is a function of the state: it changes nothing, and an unmapped address gives the
host the error without faulting the run (log 25). -/

namespace Sys2Proof.Machine

/-- The eight 8-bit registers (R6, R30). -/
inductive HostReg8 where
  | a | f | b | c | d | e | h | l
  deriving DecidableEq, Repr

/-- The 16-bit registers and pair views (R6, R31, R34, R40). -/
inductive HostReg16 where
  | af | bc | de | hl | sp | pc
  deriving DecidableEq, Repr

/-- `read8(r)` for the host. -/
def State.inspect8 (s : State) (r : HostReg8) : Byte :=
  match r with
  | .a => s.a
  | .f => s.f
  | .b => s.b
  | .c => s.c
  | .d => s.d
  | .e => s.e
  | .h => s.h
  | .l => s.l

/-- `read16(p)` for the host. -/
def State.inspect16 (s : State) (r : HostReg16) : Word :=
  match r with
  | .af => s.af
  | .bc => s.bc
  | .de => s.de
  | .hl => s.hl
  | .sp => s.sp
  | .pc => s.pc

/-- `get_flag(k)` for the host. -/
def State.inspectFlag (s : State) (k : Flag) : Bool := s.flag k

/-- The byte `read_byte` would return, or the error (R360). -/
def State.inspectByte (s : State) (a : Word) : Except StepError Byte :=
  match s.mem.readByte a with
  | some v => .ok v
  | none => .error (.unmappedAddress a)

end Sys2Proof.Machine
end

