-- ==== Sys2Proof/WellFormed.lean ====
section
/-! DEFINITION. Which terms of Instr are instructions the decoder can answer. Every operand is a
byte or a word and has no ill-formed value; the one ill-formed term is the row of the lead-in byte
0xCB, whose two bytes are always an extended row's own (spec/30_encoding.md R103). -/

namespace Sys2Proof

/-- `cbPrefix b` names the bytes `CB b`, which are another row's words, so it is no instruction of
its own; every other term is well formed (R104, log 8). -/
def Instr.wellFormed (i : Instr) : Bool :=
  match i with
  | .cbPrefix _ => false
  | _ => true

end Sys2Proof
end

