-- ==== Sys2Proof/Safety.lean ====
section
/-! DEFINITION. The terms in which claims are stated: the host's view of a step (spec/60_exceptions.md
R340), the machine's invariant (spec/10_state.md R38, R44, R45), the overlay's switch point
(spec/30_encoding.md R100), the parked loop (spec/70_reset_and_hazards.md R387), what an instruction
leaves unchanged, and the row of an instruction. -/

namespace Sys2Proof.Machine

/-! ## The host's view of a step -/

/-- `StepResult` (R340). -/
inductive StepResult where
  | ok
  | error (e : StepError)
  deriving DecidableEq, Repr

/-- The run status a step leaves (R47): the next state's, or Faulted with the error of a fault.
Faulted is absorbing, so the status of a Faulted core that is stepped stays as it is (R47). -/
def statusAfter (r : Result) : RunStatus :=
  match r with
  | .next t => t.status
  | .fault (.unmappedAddress a) => .faulted (.unmappedAddress a)
  | .fault (.steppedWhileFaulted e) => .faulted e
  | .refused _ => .running

/-- What `step()` returns to the Driver Loop (R340), on a Running core. On a Faulted core the spec
calls `step()` undefined and does not say what it returns (R47); here it returns nothing, `none`.
DESIGN CHOICE, safe (log 27): the error of the earlier step is not reported a second time. -/
def stepResult (s : State) : Option StepResult :=
  match s.status with
  | .faulted _ => none
  | .running =>
    match statusAfter (step s) with
    | .running => some .ok
    | .faulted e => some (.error e)

/-! ## The invariant -/

/-- F[3:0] = 0 (R38), the memory is in canonical form (log 11), and the overlay is active only over
a boot image (R44). -/
def State.inv (s : State) : Bool :=
  decide (s.f &&& 0x0F#8 = 0#8) && s.mem.wf && (!s.mem.bootOverlayActive || bootPresent s.mem.boot)

/-! ## The overlay's switch point -/

/-- Whether the step that starts at `s` calls `disable_boot_overlay()` (R100): pc is 0x0100 at its
start, or its opcode fetch moves pc there. -/
def State.atSwitchPoint (s : State) : Bool :=
  match s.params.overlayPoint with
  | .atStepStart => decide (s.pc = 0x0100#16)
  | .afterOpcodeFetch => decide (s.pc + 1#16 = 0x0100#16)

/-- The state with the step's own overlay switch done. -/
def State.switched (s : State) : State := if s.atSwitchPoint then s.disableBootOverlay else s

/-- Parked (R387): running, with `18 FE` at pc, read through the router. -/
def State.parked (s : State) : Prop :=
  s.status = .running ∧ s.mem.readByte s.pc = some 0x18#8 ∧ s.mem.readByte (s.pc + 1#16) = some 0xFE#8

/-- The one place where a step's own switch hides the boot byte at its pc (R100, R390): pc = 0x00FF
under AfterOpcodeFetch with the overlay on. R387 names only P = 0x0100 (DEDUCED, log 26). -/
def State.parkedUnderTheSwitch (s : State) : Prop :=
  s.params.overlayPoint = .afterOpcodeFetch ∧ s.pc = 0x00FF#16 ∧ s.mem.bootOverlayActive = true

/-! ## Frames -/

/-- Everything but the operand registers in `rs`, the flags in `ks`, SP, pc and the bytes at the
addresses in `as` is the same in `t` as in `s`. -/
structure Frame (s t : State) (rs : List Reg8) (ks : List Flag) (as : List Word) : Prop where
  /-- Operand registers. -/
  regs : ∀ r, r ∉ rs → t.reg r = s.reg r
  /-- Flags. -/
  flags : ∀ k, k ∉ ks → t.flag k = s.flag k
  /-- The reserved bits of F. -/
  reserved : t.f &&& 0x0F#8 = s.f &&& 0x0F#8
  /-- Every byte a read returns. -/
  bytes : ∀ a, a ∉ as → t.mem.readByte a = s.mem.readByte a
  /-- Every byte of the writable buffers, hidden by the overlay or not. -/
  under : ∀ a, a ∉ as → t.mem.under a = s.mem.under a
  /-- The latch. -/
  overlay : t.mem.bootOverlayActive = s.mem.bootOverlayActive
  /-- The boot image. -/
  boot : t.mem.boot = s.mem.boot
  /-- The cartridge's length. -/
  cartLen : t.mem.cartLen = s.mem.cartLen
  /-- The run status. -/
  status : t.status = s.status
  /-- The parameters. -/
  params : t.params = s.params

/-- The value of an 8-bit operand: a register, or the byte at x[HL] where that is readable (R23). -/
def operandValue (s : State) (o : Opnd8) : Option Byte :=
  match o with
  | .reg r => some (s.reg r)
  | .atHl => s.mem.readByte s.hl

/-- The value of an ALU operand (R182). -/
def aluValue (s : State) (src : AluSrc) : Option Byte :=
  match src with
  | .opnd o => operandValue s o
  | .imm n => some n

/-- An operand that can be written: a register always, (HL) where x[HL] is mapped (R23, R62). -/
def operandWritable (s : State) (o : Opnd8) : Prop :=
  match o with
  | .reg _ => True
  | .atHl => (s.mem.under s.hl).isSome = true

/-- `t` holds `v` in the operand `o` names at `s`: in the register, or under the address x[HL]. -/
def operandHolds (s t : State) (o : Opnd8) (v : Byte) : Prop :=
  match o with
  | .reg r => t.reg r = v
  | .atHl => t.mem.under s.hl = some v

/-- The registers a write to an operand changes. -/
def operandRegs (o : Opnd8) : List Reg8 :=
  match o with
  | .reg r => [r]
  | .atHl => []

/-- The addresses a write to an operand changes. -/
def operandBytes (s : State) (o : Opnd8) : List Word :=
  match o with
  | .reg _ => []
  | .atHl => [s.hl]

/-- The registers a write to a `reg16sp` pair changes; SP is no operand register. -/
def pairSpRegs (p : PairSp) : List Reg8 :=
  match p with
  | .bc => [.b, .c]
  | .de => [.d, .e]
  | .hl => [.h, .l]
  | .sp => []

/-- The registers a write to a `reg16af` pair changes. -/
def pairAfRegs (p : PairAf) : List Reg8 :=
  match p with
  | .bc => [.b, .c]
  | .de => [.d, .e]
  | .hl => [.h, .l]
  | .af => [.a]

/-! ## The row of an instruction -/

/-- The bytes the opcode table gives an instruction and the preset it belongs to (R120 to R122). -/
structure RowIs (i : Instr) (bytes : List Byte) (preset : Preset) : Prop where
  encoding : encode i = bytes
  inDoc : i.implemented .doc = decide (preset = .doc)
  inFull : i.implemented .full = decide (preset ≠ .refused)

end Sys2Proof.Machine
end

