-- ==== Sys2Proof/Certificates/Slice0/Obligations.lean ====
section
/-! DEFINITION. Statements for the provers. Each docstring names the rules it formalises. A state `s`
at which `exec` runs has pc past the instruction's bytes (log 7). Encodings, presets, the operations
of preset FULL and the spec's decisions are the spec's own choices where the source is silent
(logs 13 to 25); those statements have basis "derived". -/

open Sys2Proof Sys2Proof.Machine

/-! ## Encoding and decoding -/

/-- Words written out bit by bit from the Encoding lines decode to the instructions they stand for. -/
def Obligations.SampleWordsDecode : Prop :=
  decode [0b00000001#8, 0x34#8, 0x12#8] = .ok (.ldBcNn 0x1234#16, [])
  ∧ decode [0b00110110#8, 0x5A#8] = .ok (.ldAtHlN 0x5A#8, [])
  ∧ decode [0b01000111#8] = .ok (.ldBA, [])
  ∧ decode [0b00001000#8, 0x00#8, 0x80#8] = .ok (.ldAtNnSp 0x8000#16, [])
  ∧ decode [0b10101110#8] = .ok (.xorAtHl, [])
  ∧ decode [0b11111110#8, 0x2F#8] = .ok (.cpN 0x2F#8, [])
  ∧ decode [0b00111101#8] = .ok (.decA, [])
  ∧ decode [0b00100011#8] = .ok (.incHl, [])
  ∧ decode [0b11101000#8, 0xFE#8] = .ok (.addSpE 0xFE#8, [])
  ∧ decode [0b00011111#8] = .ok (.rra, [])
  ∧ decode [0b11001011#8, 0b01111100#8] = .ok (.bit7H, [])
  ∧ decode [0b11001011#8, 0b00010001#8] = .ok (.rlC, [])
  ∧ decode [0b11001011#8, 0b11000110#8] = .ok (.set0AtHl, [])
  ∧ decode [0b00111000#8, 0xF0#8] = .ok (.jrCE 0xF0#8, [])
  ∧ decode [0b11011100#8, 0x00#8, 0x02#8] = .ok (.callCNn 0x0200#16, [])
  ∧ decode [0b11101111#8] = .ok (.rst28, [])
  ∧ decode [0b11110101#8] = .ok (.pushAf, [])
  ∧ decode [0b11010001#8] = .ok (.popDe, [])
  ∧ decode [0b01110110#8] = .ok (.halt, [])
  ∧ decode [0b11100100#8] = .ok (.illegalE4, [])

/-- Decoding the encoding of any well-formed instruction gives it back, whatever bytes follow. -/
def Obligations.DecodeOfEncode : Prop :=
  ∀ (i : Instr) (rest : List Byte), i.wellFormed = true → decode (encode i ++ rest) = .ok (i, rest)

/-- The other direction: what the decoder answers is well formed and its encoding is the bytes read,
so each word has one meaning (R104). -/
def Obligations.EncodeOfDecode : Prop :=
  ∀ (bs : List Byte) (i : Instr) (rest : List Byte),
    decode bs = .ok (i, rest) → i.wellFormed = true ∧ encode i ++ rest = bs

/-- Decoding is total, and the first byte alone fixes how many bytes it consumes: three for the
OP_NN rows, two for the OP_N, OP_E and CB rows, one for every other (R104, R111). -/
def Obligations.DecodeTotalWithLength : Prop :=
  ∀ (op b1 b2 : Byte) (rest : List Byte), ∃ i : Instr,
    decode (op :: b1 :: b2 :: rest) = .ok (i,
      if op ∈ [0x01#8, 0x11#8, 0x21#8, 0x31#8, 0x08#8, 0xC3#8, 0xC2#8, 0xCA#8, 0xD2#8, 0xDA#8, 0xCD#8,
          0xC4#8, 0xCC#8, 0xD4#8, 0xDC#8, 0xEA#8, 0xFA#8] then rest
      else if op ∈ [0x06#8, 0x0E#8, 0x16#8, 0x1E#8, 0x26#8, 0x2E#8, 0x36#8, 0x3E#8, 0x18#8, 0x20#8, 0x28#8,
          0x30#8, 0x38#8, 0xC6#8, 0xCE#8, 0xD6#8, 0xDE#8, 0xE6#8, 0xEE#8, 0xF6#8, 0xFE#8, 0xE0#8, 0xF0#8,
          0xE8#8, 0xF8#8, 0xCB#8] then b2 :: rest
      else b1 :: b2 :: rest)

/-! ## The step -/

/-- A step runs the decoded instruction: where the bytes at pc, read through the router, are those of
an instruction the preset executes, the step is its meaning at the state with the step's own overlay
switch done and pc past the instruction's bytes (R100, R101). -/
def Obligations.StepRunsDecodedInstruction : Prop :=
  ∀ (s : State) (bs : List Byte) (i : Instr),
    s.status = .running → decode bs = .ok (i, []) → i.implemented s.params.impl = true →
    (∀ k v, bs[k]? = some v → s.mem.readByte (s.pc + BitVec.ofNat 16 k) = some v) →
    step s = exec i (s.switched.setPc (s.pc + BitVec.ofNat 16 bs.length))

/-- UnimplementedOpcode: the report names the opcode (the second byte, if extended) and the address
of the first byte; pc stops past the opcode byte or bytes, the step's own overlay switch may have
happened, the run status is Faulted, and nothing else changes; no operand byte is read (R340, R341,
R343). -/
def Obligations.UnimplementedOpcodeState : Prop :=
  ∀ (s : State) (op op2 : Byte), s.status = .running → s.mem.readByte s.pc = some op →
    (op ≠ 0xCB#8 → implBase s.params.impl op = false →
      step s = .next { s.switched with
        pc := s.pc + 1#16, status := .faulted (.unimplementedOpcode false op s.pc) })
    ∧ (op = 0xCB#8 → s.mem.readByte (s.pc + 1#16) = some op2 → implExt s.params.impl op2 = false →
      step s = .next { s.switched with
        pc := s.pc + 2#16, status := .faulted (.unimplementedOpcode true op2 s.pc) })

/-- A fetch from an unmapped address stops the step with that address, the opcode byte first, then
the second opcode byte, then the operand bytes in address order, those of an executed opcode only
(R342, R346). -/
def Obligations.UnmappedFetchFaults : Prop :=
  ∀ (s : State) (op lo : Byte), s.status = .running →
    (s.mem.readByte s.pc = none → step s = .fault (.unmappedAddress s.pc))
    ∧ (s.mem.readByte s.pc = some 0xCB#8 → s.mem.readByte (s.pc + 1#16) = none →
        step s = .fault (.unmappedAddress (s.pc + 1#16)))
    ∧ (s.mem.readByte s.pc = some op → op ≠ 0xCB#8 → implBase s.params.impl op = true →
        2 ≤ instrLength op → s.mem.readByte (s.pc + 1#16) = none →
        step s = .fault (.unmappedAddress (s.pc + 1#16)))
    ∧ (s.mem.readByte s.pc = some op → op ≠ 0xCB#8 → implBase s.params.impl op = true →
        instrLength op = 3 → s.mem.readByte (s.pc + 1#16) = some lo →
        s.mem.readByte (s.pc + 2#16) = none → step s = .fault (.unmappedAddress (s.pc + 2#16)))

/-- A Faulted core has no step (R47). -/
def Obligations.FaultedCoreHasNoStep : Prop :=
  ∀ (s : State) (e : StepError), s.status = .faulted e → step s = .fault (.steppedWhileFaulted e)

/-- The latch after any step is the latch before it, switched off exactly where the step's own test
meets 0x0100; no instruction writes it and nothing sets it (R44, R75, R76, R100). -/
def Obligations.OverlayLatchOnlySwitchesOff : Prop :=
  ∀ s t : State, step s = .next t →
    t.mem.bootOverlayActive = (s.mem.bootOverlayActive && !s.atSwitchPoint)

/-- The step of a parked core does its own overlay switch and nothing else: every register, flag, pc
and buffer byte is as it was, and of the latch only that switch is seen (R100, R387, R390). The core
is parked afterwards too, except where the switch is at P = 0x00FF (AfterOpcodeFetch, overlay on):
there the cartridge answers at P from then on, and the core is parked exactly if that byte is 0x18
(log 26). -/
def Obligations.ParkedStepDoesOnlyTheOverlaySwitch : Prop :=
  ∀ s : State, s.parked →
    step s = .next s.switched
    ∧ (∃ b, s.switched = { s with mem := { s.mem with bootOverlayActive := b } })
    ∧ (¬ s.parkedUnderTheSwitch → s.switched.parked)
    ∧ (s.parkedUnderTheSwitch →
        (s.switched.parked ↔ 0x00FF < s.mem.cartLen ∧ cellsGet s.mem.cart 0x00FF = 0x18#8))

/-! ## The router and word access -/

/-- `read_byte`, line by line in priority order (R61, R63, R64, R65). -/
def Obligations.ReadByteRouting : Prop :=
  ∀ (m : Memory) (a : Word),
    m.readByte a =
      if m.bootOverlayActive = true ∧ a.toNat ≤ 0x00FF then m.boot[a.toNat]?
      else if a.toNat ≤ 0x7FFF then
        (if a.toNat < m.cartLen then some (cellsGet m.cart a.toNat) else none)
      else if 0x8000 ≤ a.toNat ∧ a.toNat ≤ 0x9FFF then some (cellsGet m.vram (a.toNat - 0x8000))
      else if 0xFF00 ≤ a.toNat ∧ a.toNat ≤ 0xFF7F then some (cellsGet m.io (a.toNat - 0xFF00))
      else if 0xFF80 ≤ a.toNat ∧ a.toNat ≤ 0xFFFE then some (cellsGet m.hram (a.toNat - 0xFF80))
      else none

/-- `write_byte` (R62): it completes exactly at the mapped addresses and stores its byte in the buffer
that the address names, never in the boot image; the byte is read back wherever the overlay does not
answer, the boot byte where it does, no other byte changes, and neither latch, boot image nor buffer
length does. -/
def Obligations.WriteByteChangesOneByte : Prop :=
  ∀ (m : Memory) (a : Word) (v : Byte),
    ((a.toNat ≤ 0x7FFF ∧ a.toNat < m.cartLen) ∨ (0x8000 ≤ a.toNat ∧ a.toNat ≤ 0x9FFF)
        ∨ (0xFF00 ≤ a.toNat ∧ a.toNat ≤ 0xFFFE) →
      ∃ m', m.writeByte a v = some m'
        ∧ (a.toNat ≤ 0x7FFF → cellsGet m'.cart a.toNat = v)
        ∧ (0x8000 ≤ a.toNat → a.toNat ≤ 0x9FFF → cellsGet m'.vram (a.toNat - 0x8000) = v)
        ∧ (0xFF00 ≤ a.toNat → a.toNat ≤ 0xFF7F → cellsGet m'.io (a.toNat - 0xFF00) = v)
        ∧ (0xFF80 ≤ a.toNat → a.toNat ≤ 0xFFFE → cellsGet m'.hram (a.toNat - 0xFF80) = v)
        ∧ (¬(m.bootOverlayActive = true ∧ a.toNat ≤ 0x00FF) → m'.readByte a = some v)
        ∧ ((m.bootOverlayActive = true ∧ a.toNat ≤ 0x00FF) → m'.readByte a = m.readByte a)
        ∧ (∀ x, x ≠ a → m'.readByte x = m.readByte x ∧ m'.under x = m.under x)
        ∧ m'.bootOverlayActive = m.bootOverlayActive ∧ m'.boot = m.boot ∧ m'.cartLen = m.cartLen)
    ∧ (¬((a.toNat ≤ 0x7FFF ∧ a.toNat < m.cartLen) ∨ (0x8000 ≤ a.toNat ∧ a.toNat ≤ 0x9FFF)
        ∨ (0xFF00 ≤ a.toNat ∧ a.toNat ≤ 0xFFFE)) → m.writeByte a v = none)

/-- The unmapped addresses: any load or store at 0xA000 to 0xFEFF or 0xFFFF stops with
UnmappedAddress (R66), and so does one past the end of a short buffer (R67). -/
def Obligations.UnmappedAccessFaults : Prop :=
  ∀ (s : State) (a : Word) (v : Byte) (kl : Byte → Result) (ks : State → Result),
    ((0xA000 ≤ a.toNat ∧ a.toNat ≤ 0xFEFF) ∨ a.toNat = 0xFFFF →
      s.load a kl = .fault (.unmappedAddress a) ∧ s.store a v ks = .fault (.unmappedAddress a))
    ∧ (a.toNat ≤ 0x7FFF → s.mem.cartLen ≤ a.toNat → s.store a v ks = .fault (.unmappedAddress a))
    ∧ (a.toNat ≤ 0x7FFF → s.mem.cartLen ≤ a.toNat →
        (s.mem.bootOverlayActive = false ∨ 0x00FF < a.toNat) → s.load a kl = .fault (.unmappedAddress a))
    ∧ (s.mem.bootOverlayActive = true → a.toNat ≤ 0x00FF → s.mem.boot.length ≤ a.toNat →
        s.load a kl = .fault (.unmappedAddress a))

/-- Word access: two byte accesses, the low byte first at the lower address, the second address
modulo 2^16, and a fault of the second leaves the first done before it (R70, R71, R72, R73). -/
def Obligations.WordAccessLittleEndian : Prop :=
  (∀ (s : State) (a : Word) (k : Word → Result),
    (∀ lo hi, s.mem.readByte a = some lo → s.mem.readByte (a + 1#16) = some hi →
      s.loadWord a k = k (hi ++ lo))
    ∧ (s.mem.readByte a = none → s.loadWord a k = .fault (.unmappedAddress a))
    ∧ (∀ lo, s.mem.readByte a = some lo → s.mem.readByte (a + 1#16) = none →
      s.loadWord a k = .fault (.unmappedAddress (a + 1#16))))
  ∧ (∀ (s : State) (a v : Word),
    (s.mem.under a ≠ none → s.mem.under (a + 1#16) ≠ none →
      ∃ t, (∀ k, s.storeWord a v k = k t)
        ∧ t.mem.under a = some (v.extractLsb' 0 8) ∧ t.mem.under (a + 1#16) = some (v.extractLsb' 8 8)
        ∧ t.sp = s.sp ∧ t.pc = s.pc ∧ Frame s t [] [] [a, a + 1#16])
    ∧ (s.mem.under a = none → ∀ k, s.storeWord a v k = .fault (.unmappedAddress a))
    ∧ (s.mem.under a ≠ none → s.mem.under (a + 1#16) = none →
      ∀ k, s.storeWord a v k = .fault (.unmappedAddress (a + 1#16))))

/-! ## Registers, flags and the host's reads -/

/-- A flag write changes exactly one bit of F (R36, R37). -/
def Obligations.FlagWriteChangesOneBit : Prop :=
  ∀ (f : Byte) (k : Flag) (x : Bool),
    getFlag (putFlag f k x) k = x
    ∧ (∀ j, j ≠ k → getFlag (putFlag f k x) j = getFlag f j)
    ∧ putFlag f k x &&& 0x0F#8 = f &&& 0x0F#8
    ∧ [getFlag f .z, getFlag f .n, getFlag f .h, getFlag f .c]
        = [f.getLsbD 7, f.getLsbD 6, f.getLsbD 5, f.getLsbD 4]

/-- The 16-bit view of BC, DE and HL is the high half in the upper byte, and writing it splits it
back into the two halves and changes nothing else (R31, R32). -/
def Obligations.PairViewsShareTheHalves : Prop :=
  ∀ (s : State) (v : Word),
    s.bc.toNat = 256 * s.b.toNat + s.c.toNat ∧ s.de.toNat = 256 * s.d.toNat + s.e.toNat
    ∧ s.hl.toNat = 256 * s.h.toNat + s.l.toNat ∧ s.af.toNat = 256 * s.a.toNat + s.f.toNat
    ∧ (s.setBc v).bc = v ∧ s.setBc v = { s with b := v.extractLsb' 8 8, c := v.extractLsb' 0 8 }
    ∧ (s.setDe v).de = v ∧ s.setDe v = { s with d := v.extractLsb' 8 8, e := v.extractLsb' 0 8 }
    ∧ (s.setHl v).hl = v ∧ s.setHl v = { s with h := v.extractLsb' 8 8, l := v.extractLsb' 0 8 }

/-- The host's inspection of memory is `read_byte`: it honours the latch, and at an unmapped address
it returns the error (R360). -/
def Obligations.InspectionReadsThroughTheRouter : Prop :=
  ∀ (s : State) (a : Word),
    (∀ v, s.mem.readByte a = some v → s.inspectByte a = .ok v ∧ ∀ k, s.load a k = k v)
    ∧ (s.mem.readByte a = none →
        s.inspectByte a = .error (.unmappedAddress a) ∧ ∀ k, s.load a k = .fault (.unmappedAddress a))
    ∧ s.inspect16 .af = s.inspect8 .a ++ s.inspect8 .f ∧ s.inspect16 .bc = s.inspect8 .b ++ s.inspect8 .c
    ∧ s.inspect16 .de = s.inspect8 .d ++ s.inspect8 .e ∧ s.inspect16 .hl = s.inspect8 .h ++ s.inspect8 .l
    ∧ (∀ k, s.inspectFlag k = getFlag (s.inspect8 .f) k)

/-! ## Loads and stores -/

/-- LD r,r' copies one 8-bit register into another and changes nothing else (R143). -/
def Obligations.LoadRegisterFromRegister : Prop :=
  ∀ dst src : Reg8,
    RowIs (Instr.ofLdRR dst src) [opcodeByte 1 dst.code src.code] .doc
    ∧ ∀ s : State, ∃ t, exec (Instr.ofLdRR dst src) s = .next t
        ∧ t.reg dst = s.reg src ∧ t.sp = s.sp ∧ t.pc = s.pc ∧ Frame s t [dst] [] []

/-- LD r,n and LD rr,nn store the immediate and change nothing else (R140, R141). -/
def Obligations.LoadImmediate : Prop :=
  (∀ (r : Reg8) (n : Byte),
    RowIs (Instr.ofLdRN r n) [opcodeByte 0 r.code 6, n] .doc
    ∧ ∀ s : State, ∃ t, exec (Instr.ofLdRN r n) s = .next t
        ∧ t.reg r = n ∧ t.sp = s.sp ∧ t.pc = s.pc ∧ Frame s t [r] [] [])
  ∧ (∀ (p : PairSp) (nn : Word),
    RowIs (Instr.ofLdPair p nn) [BitVec.ofNat 8 (16 * p.code + 1), nn.extractLsb' 0 8, nn.extractLsb' 8 8] .doc
    ∧ ∀ s : State, ∃ t, exec (Instr.ofLdPair p nn) s = .next t
        ∧ t.pairSp p = nn ∧ (p ≠ .sp → t.sp = s.sp) ∧ t.pc = s.pc ∧ Frame s t (pairSpRegs p) [] [])

/-- LD r,(HL), LD (HL),r and LD (HL),n: the byte at x[HL] is read overlay-aware, written below the
overlay; an unmapped x[HL] stops with UnmappedAddress(x[HL]) (R142, R144, R145). -/
def Obligations.LoadThroughHl : Prop :=
  (∀ r : Reg8, RowIs (Instr.ofLdRHl r) [opcodeByte 1 r.code 6] .doc ∧ ∀ s : State,
    (∀ v, s.mem.readByte s.hl = some v → ∃ t, exec (Instr.ofLdRHl r) s = .next t
      ∧ t.reg r = v ∧ t.sp = s.sp ∧ t.pc = s.pc ∧ Frame s t [r] [] [])
    ∧ (s.mem.readByte s.hl = none → exec (Instr.ofLdRHl r) s = .fault (.unmappedAddress s.hl)))
  ∧ (∀ r : Reg8, RowIs (Instr.ofLdHlR r) [opcodeByte 1 6 r.code] .doc ∧ ∀ s : State,
    (s.mem.under s.hl ≠ none → ∃ t, exec (Instr.ofLdHlR r) s = .next t
      ∧ t.mem.under s.hl = some (s.reg r) ∧ t.sp = s.sp ∧ t.pc = s.pc ∧ Frame s t [] [] [s.hl])
    ∧ (s.mem.under s.hl = none → exec (Instr.ofLdHlR r) s = .fault (.unmappedAddress s.hl)))
  ∧ (∀ n : Byte, RowIs (.ldAtHlN n) [0x36#8, n] .doc ∧ ∀ s : State,
    (s.mem.under s.hl ≠ none → ∃ t, exec (.ldAtHlN n) s = .next t
      ∧ t.mem.under s.hl = some n ∧ t.sp = s.sp ∧ t.pc = s.pc ∧ Frame s t [] [] [s.hl])
    ∧ (s.mem.under s.hl = none → exec (.ldAtHlN n) s = .fault (.unmappedAddress s.hl)))

/-- The auto-increment and auto-decrement loads and stores: the access at x[HL], then x[HL] plus or
minus 1 modulo 2^16, and no flag (R146, R147, R148, R149). -/
def Obligations.LoadAndStepHl : Prop :=
  RowIs .ldAtHlIncA [0x22#8] .doc ∧ RowIs .ldAtHlDecA [0x32#8] .doc
  ∧ RowIs .ldAAtHlInc [0x2A#8] .doc ∧ RowIs .ldAAtHlDec [0x3A#8] .doc
  ∧ ∀ s : State,
    (∀ x ∈ [(Instr.ldAtHlIncA, s.hl + 1#16), (Instr.ldAtHlDecA, s.hl - 1#16)],
      (s.mem.under s.hl ≠ none → ∃ t, exec x.1 s = .next t
        ∧ t.mem.under s.hl = some s.a ∧ t.hl = x.2 ∧ t.sp = s.sp ∧ t.pc = s.pc
        ∧ Frame s t [.h, .l] [] [s.hl])
      ∧ (s.mem.under s.hl = none → exec x.1 s = .fault (.unmappedAddress s.hl)))
    ∧ (∀ x ∈ [(Instr.ldAAtHlInc, s.hl + 1#16), (Instr.ldAAtHlDec, s.hl - 1#16)],
      (∀ v, s.mem.readByte s.hl = some v → ∃ t, exec x.1 s = .next t
        ∧ t.a = v ∧ t.hl = x.2 ∧ t.sp = s.sp ∧ t.pc = s.pc ∧ Frame s t [.a, .h, .l] [] [])
      ∧ (s.mem.readByte s.hl = none → exec x.1 s = .fault (.unmappedAddress s.hl)))

/-- The loads of A from (BC), (DE), (nn), (0xFF00+n) and (0xFF00+C) (R151, R153, R155, R157). -/
def Obligations.LoadAFromAddress : Prop :=
  ∀ (nn : Word) (n : Byte),
    RowIs .ldAAtBc [0x0A#8] .full ∧ RowIs .ldAAtDe [0x1A#8] .full
    ∧ RowIs (.ldAAtNn nn) [0xFA#8, nn.extractLsb' 0 8, nn.extractLsb' 8 8] .full
    ∧ RowIs (.ldhAAtN n) [0xF0#8, n] .full ∧ RowIs .ldAAtC [0xF2#8] .full
    ∧ ∀ s : State,
      ∀ x ∈ [(Instr.ldAAtBc, s.bc), (Instr.ldAAtDe, s.de), (Instr.ldAAtNn nn, nn),
          (Instr.ldhAAtN n, BitVec.ofNat 16 (0xFF00 + n.toNat)),
          (Instr.ldAAtC, BitVec.ofNat 16 (0xFF00 + s.c.toNat))],
        (∀ v, s.mem.readByte x.2 = some v → ∃ t, exec x.1 s = .next t
          ∧ t.a = v ∧ t.sp = s.sp ∧ t.pc = s.pc ∧ Frame s t [.a] [] [])
        ∧ (s.mem.readByte x.2 = none → exec x.1 s = .fault (.unmappedAddress x.2))

/-- The stores of A to (BC), (DE), (nn), (0xFF00+n) and (0xFF00+C) (R150, R152, R154, R156). -/
def Obligations.StoreAToAddress : Prop :=
  ∀ (nn : Word) (n : Byte),
    RowIs .ldAtBcA [0x02#8] .full ∧ RowIs .ldAtDeA [0x12#8] .full
    ∧ RowIs (.ldAtNnA nn) [0xEA#8, nn.extractLsb' 0 8, nn.extractLsb' 8 8] .full
    ∧ RowIs (.ldhAtNA n) [0xE0#8, n] .full ∧ RowIs .ldAtCA [0xE2#8] .full
    ∧ ∀ s : State,
      ∀ x ∈ [(Instr.ldAtBcA, s.bc), (Instr.ldAtDeA, s.de), (Instr.ldAtNnA nn, nn),
          (Instr.ldhAtNA n, BitVec.ofNat 16 (0xFF00 + n.toNat)),
          (Instr.ldAtCA, BitVec.ofNat 16 (0xFF00 + s.c.toNat))],
        (s.mem.under x.2 ≠ none → ∃ t, exec x.1 s = .next t
          ∧ t.mem.under x.2 = some s.a ∧ t.sp = s.sp ∧ t.pc = s.pc ∧ Frame s t [] [] [x.2])
        ∧ (s.mem.under x.2 = none → exec x.1 s = .fault (.unmappedAddress x.2))

/-- LD (nn),SP stores SP as a little-endian word, low byte first (R158). -/
def Obligations.StoreSpWord : Prop :=
  ∀ nn : Word,
    RowIs (.ldAtNnSp nn) [0x08#8, nn.extractLsb' 0 8, nn.extractLsb' 8 8] .full
    ∧ ∀ s : State,
      (s.mem.under nn ≠ none → s.mem.under (nn + 1#16) ≠ none →
        ∃ t, exec (.ldAtNnSp nn) s = .next t
          ∧ t.mem.under nn = some (s.sp.extractLsb' 0 8)
          ∧ t.mem.under (nn + 1#16) = some (s.sp.extractLsb' 8 8)
          ∧ t.sp = s.sp ∧ t.pc = s.pc ∧ Frame s t [] [] [nn, nn + 1#16])
      ∧ (s.mem.under nn = none → exec (.ldAtNnSp nn) s = .fault (.unmappedAddress nn))
      ∧ (s.mem.under nn ≠ none → s.mem.under (nn + 1#16) = none →
        exec (.ldAtNnSp nn) s = .fault (.unmappedAddress (nn + 1#16)))

/-- LD SP,HL copies HL into SP; LD HL,SP+e gives HL = SP + e with e signed, Z = N = 0 and H and C
from the unsigned addition of the low byte of SP and the raw byte e (R159, R160). -/
def Obligations.LoadSpAndHlSpOffset : Prop :=
  RowIs .ldSpHl [0xF9#8] .full
  ∧ (∀ s : State, ∃ t, exec .ldSpHl s = .next t ∧ t.sp = s.hl ∧ t.pc = s.pc ∧ Frame s t [] [] [])
  ∧ ∀ e : Byte, RowIs (.ldHlSpE e) [0xF8#8, e] .full
    ∧ ∀ s : State, ∃ t, exec (.ldHlSpE e) s = .next t
      ∧ t.hl = BitVec.ofInt 16 (s.sp.toNat + e.toInt)
      ∧ t.flag .z = false ∧ t.flag .n = false
      ∧ t.flag .h = decide (0x0F < s.sp.toNat % 0x10 + e.toNat % 0x10)
      ∧ t.flag .c = decide (0xFF < s.sp.toNat % 0x100 + e.toNat)
      ∧ t.sp = s.sp ∧ t.pc = s.pc ∧ Frame s t [.h, .l] [.z, .n, .h, .c] []

/-! ## 8-bit ALU -/

/-- Every 8-bit ALU instruction has the register form `10 yyy zzz` and the immediate form
`11 yyy 110`, XOR and CP in preset DOC, the others in FULL; an unreadable (HL) operand stops it with
UnmappedAddress(x[HL]) (R182). -/
def Obligations.AluFormsAndOperandFault : Prop :=
  ∀ op : AluOp,
    (∀ o : Opnd8, RowIs (Instr.ofAlu op (.opnd o)) [opcodeByte 2 op.code o.code]
      (if op = .xor ∨ op = .cp then .doc else .full))
    ∧ (∀ n : Byte, RowIs (Instr.ofAlu op (.imm n)) [opcodeByte 3 op.code 6, n]
      (if op = .xor ∨ op = .cp then .doc else .full))
    ∧ ∀ s : State, s.mem.readByte s.hl = none →
      exec (Instr.ofAlu op (.opnd .atHl)) s = .fault (.unmappedAddress s.hl)

/-- XOR s: A becomes A XOR s, Z from the result, N = H = C = 0 (R183). -/
def Obligations.XorResultAndFlags : Prop :=
  ∀ (src : AluSrc) (s : State) (v : Byte), aluValue s src = some v →
    ∃ t, exec (Instr.ofAlu .xor src) s = .next t
      ∧ t.a = s.a ^^^ v ∧ t.flag .z = decide (s.a = v)
      ∧ t.flag .n = false ∧ t.flag .h = false ∧ t.flag .c = false
      ∧ t.sp = s.sp ∧ t.pc = s.pc ∧ Frame s t [.a] [.z, .n, .h, .c] []

/-- CP s: the flags of A - s, with A unchanged: Z = (A = s), N = 1, H the borrow out of bit 3,
C = (A < s) unsigned (R184, R181). -/
def Obligations.CpFlagsOnly : Prop :=
  ∀ (src : AluSrc) (s : State) (v : Byte), aluValue s src = some v →
    ∃ t, exec (Instr.ofAlu .cp src) s = .next t
      ∧ t.flag .z = decide (s.a = v) ∧ t.flag .n = true
      ∧ t.flag .h = decide (s.a.toNat % 0x10 < v.toNat % 0x10) ∧ t.flag .c = decide (s.a.toNat < v.toNat)
      ∧ t.sp = s.sp ∧ t.pc = s.pc ∧ Frame s t [] [.z, .n, .h, .c] []

/-- ADD A,s and ADC A,s: the sum with the carry-in, truncated to 8 bits; Z, N = 0, H the carry out of
bit 3 and C the carry out of bit 7 (R180, R187, R188). -/
def Obligations.AddAndAdcResultAndFlags : Prop :=
  ∀ (src : AluSrc) (s : State) (v : Byte), aluValue s src = some v →
    ∀ x ∈ [(AluOp.add, 0), (AluOp.adc, (s.flag .c).toNat)],
      ∃ t, exec (Instr.ofAlu x.1 src) s = .next t
        ∧ t.a.toNat = (s.a.toNat + v.toNat + x.2) % 0x100
        ∧ t.flag .z = decide ((s.a.toNat + v.toNat + x.2) % 0x100 = 0) ∧ t.flag .n = false
        ∧ t.flag .h = decide (0x0F < s.a.toNat % 0x10 + v.toNat % 0x10 + x.2)
        ∧ t.flag .c = decide (0xFF < s.a.toNat + v.toNat + x.2)
        ∧ t.sp = s.sp ∧ t.pc = s.pc ∧ Frame s t [.a] [.z, .n, .h, .c] []

/-- SUB s and SBC A,s: the difference with the borrow-in modulo 256; Z, N = 1, H the borrow out of
bit 3 and C the borrow out of bit 7 (R181, R189, R190). -/
def Obligations.SubAndSbcResultAndFlags : Prop :=
  ∀ (src : AluSrc) (s : State) (v : Byte), aluValue s src = some v →
    ∀ x ∈ [(AluOp.sub, 0), (AluOp.sbc, (s.flag .c).toNat)],
      ∃ t, exec (Instr.ofAlu x.1 src) s = .next t
        ∧ t.a = BitVec.ofInt 8 ((s.a.toNat : Int) - v.toNat - x.2)
        ∧ t.flag .z = decide (t.a = 0#8) ∧ t.flag .n = true
        ∧ t.flag .h = decide (s.a.toNat % 0x10 < v.toNat % 0x10 + x.2)
        ∧ t.flag .c = decide (s.a.toNat < v.toNat + x.2)
        ∧ t.sp = s.sp ∧ t.pc = s.pc ∧ Frame s t [.a] [.z, .n, .h, .c] []

/-- AND s and OR s: Z from the result, N = 0, C = 0, H = 1 for AND and 0 for OR (R191, R192). -/
def Obligations.AndOrResultAndFlags : Prop :=
  ∀ (src : AluSrc) (s : State) (v : Byte), aluValue s src = some v →
    ∀ x ∈ [(AluOp.and, s.a &&& v, true), (AluOp.or, s.a ||| v, false)],
      ∃ t, exec (Instr.ofAlu x.1 src) s = .next t
        ∧ t.a = x.2.1 ∧ t.flag .z = decide (x.2.1 = 0#8)
        ∧ t.flag .n = false ∧ t.flag .h = x.2.2 ∧ t.flag .c = false
        ∧ t.sp = s.sp ∧ t.pc = s.pc ∧ Frame s t [.a] [.z, .n, .h, .c] []

/-- INC r and DEC r: the register plus or minus 1 modulo 256; Z from the result, N = 0 or 1, H the
carry or borrow out of bit 3, C unchanged (R185, R186). -/
def Obligations.IncDecRegister : Prop :=
  ∀ r : Reg8,
    RowIs (Instr.ofInc (.reg r)) [opcodeByte 0 r.code 4] .doc
    ∧ RowIs (Instr.ofDec (.reg r)) [opcodeByte 0 r.code 5] .doc
    ∧ ∀ s : State,
      (∃ t, exec (Instr.ofInc (.reg r)) s = .next t
        ∧ t.reg r = s.reg r + 1#8 ∧ t.flag .z = decide (s.reg r = 0xFF#8) ∧ t.flag .n = false
        ∧ t.flag .h = decide ((s.reg r).toNat % 0x10 = 0x0F)
        ∧ t.sp = s.sp ∧ t.pc = s.pc ∧ Frame s t [r] [.z, .n, .h] [])
      ∧ (∃ t, exec (Instr.ofDec (.reg r)) s = .next t
        ∧ t.reg r = s.reg r - 1#8 ∧ t.flag .z = decide (s.reg r = 0x01#8) ∧ t.flag .n = true
        ∧ t.flag .h = decide ((s.reg r).toNat % 0x10 = 0x00)
        ∧ t.sp = s.sp ∧ t.pc = s.pc ∧ Frame s t [r] [.z, .n, .h] [])

/-- INC (HL) and DEC (HL): read through the overlay, write below it, with the flags of INC r and
DEC r; the first access that is unmapped stops it (R193, R194). -/
def Obligations.IncDecAtHl : Prop :=
  RowIs .incAtHl [0x34#8] .full ∧ RowIs .decAtHl [0x35#8] .full
  ∧ ∀ s : State,
    (∀ v, s.mem.readByte s.hl = some v → s.mem.under s.hl ≠ none →
      (∃ t, exec .incAtHl s = .next t ∧ t.mem.under s.hl = some (v + 1#8)
        ∧ t.flag .z = decide (v = 0xFF#8) ∧ t.flag .n = false ∧ t.flag .h = decide (v.toNat % 0x10 = 0x0F)
        ∧ t.sp = s.sp ∧ t.pc = s.pc ∧ Frame s t [] [.z, .n, .h] [s.hl])
      ∧ (∃ t, exec .decAtHl s = .next t ∧ t.mem.under s.hl = some (v - 1#8)
        ∧ t.flag .z = decide (v = 0x01#8) ∧ t.flag .n = true ∧ t.flag .h = decide (v.toNat % 0x10 = 0x00)
        ∧ t.sp = s.sp ∧ t.pc = s.pc ∧ Frame s t [] [.z, .n, .h] [s.hl]))
    ∧ (s.mem.readByte s.hl = none ∨ s.mem.under s.hl = none →
      exec .incAtHl s = .fault (.unmappedAddress s.hl) ∧ exec .decAtHl s = .fault (.unmappedAddress s.hl))

/-- DAA: the decimal adjustment of A by N, H, C and A itself; Z from the result, H = 0, C set by an
adjustment of the high digit and never cleared, N unchanged (R195). -/
def Obligations.DecimalAdjust : Prop :=
  RowIs .daa [0x27#8] .full
  ∧ ∀ s : State, ∃ t, exec .daa s = .next t
    ∧ t.a.toNat =
      (if s.flag .n = false then
        (s.a.toNat + (if s.flag .h = true ∨ 0x09 < s.a.toNat % 0x10 then 0x06 else 0)
          + (if s.flag .c = true ∨ 0x99 < s.a.toNat then 0x60 else 0)) % 0x100
      else
        (s.a.toNat + 0x100 - (if s.flag .h = true then 0x06 else 0)
          - (if s.flag .c = true then 0x60 else 0)) % 0x100)
    ∧ t.flag .z = decide (t.a = 0#8) ∧ t.flag .h = false
    ∧ t.flag .c = (s.flag .c || (!s.flag .n && decide (0x99 < s.a.toNat)))
    ∧ t.sp = s.sp ∧ t.pc = s.pc ∧ Frame s t [.a] [.z, .h, .c] []

/-- CPL complements A and sets N and H; SCF sets C, CCF complements it, both clearing N and H; Z
stays in all three (R196, R197, R198). -/
def Obligations.CplScfCcf : Prop :=
  RowIs .cpl [0x2F#8] .full ∧ RowIs .scf [0x37#8] .full ∧ RowIs .ccf [0x3F#8] .full
  ∧ ∀ s : State,
    (∃ t, exec .cpl s = .next t ∧ t.a.toNat = 0xFF - s.a.toNat ∧ t.flag .n = true ∧ t.flag .h = true
      ∧ t.sp = s.sp ∧ t.pc = s.pc ∧ Frame s t [.a] [.n, .h] [])
    ∧ (∀ x ∈ [(Instr.scf, true), (Instr.ccf, !s.flag .c)],
      ∃ t, exec x.1 s = .next t ∧ t.flag .n = false ∧ t.flag .h = false ∧ t.flag .c = x.2
        ∧ t.sp = s.sp ∧ t.pc = s.pc ∧ Frame s t [] [.n, .h, .c] [])

/-! ## 16-bit arithmetic -/

/-- INC BC, INC DE and INC HL: the pair plus 1 modulo 2^16; under INC16_FLAGS = Doc Z from the 16-bit
result, N = 0, H the carry out of bit 11; under None no flag; C unchanged (R220). -/
def Obligations.IncPairFlagsByParameter : Prop :=
  ∀ p : PairSp, p ≠ .sp →
    RowIs (Instr.ofIncPair p) [BitVec.ofNat 8 (16 * p.code + 3)] .doc
    ∧ ∀ s : State, ∃ t, exec (Instr.ofIncPair p) s = .next t
      ∧ t.pairSp p = s.pairSp p + 1#16 ∧ t.sp = s.sp ∧ t.pc = s.pc
      ∧ (s.params.inc16Flags = .doc →
          t.flag .z = decide (s.pairSp p = 0xFFFF#16) ∧ t.flag .n = false
          ∧ t.flag .h = decide ((s.pairSp p).toNat % 0x1000 = 0x0FFF)
          ∧ Frame s t (pairSpRegs p) [.z, .n, .h] [])
      ∧ (s.params.inc16Flags = .none → Frame s t (pairSpRegs p) [] [])

/-- INC SP and DEC rr: plus or minus 1 modulo 2^16 and no flag (R221, R222). -/
def Obligations.IncSpAndDecPairWriteNoFlag : Prop :=
  RowIs .incSp [0x33#8] .full
  ∧ (∀ s : State, ∃ t, exec .incSp s = .next t ∧ t.sp = s.sp + 1#16 ∧ t.pc = s.pc ∧ Frame s t [] [] [])
  ∧ ∀ p : PairSp, RowIs (Instr.ofDecPair p) [BitVec.ofNat 8 (16 * p.code + 0x0B)] .full
    ∧ ∀ s : State, ∃ t, exec (Instr.ofDecPair p) s = .next t
      ∧ t.pairSp p = s.pairSp p - 1#16 ∧ (p ≠ .sp → t.sp = s.sp) ∧ t.pc = s.pc
      ∧ Frame s t (pairSpRegs p) [] []

/-- ADD HL,rr: the 16-bit sum; N = 0, H the carry out of bit 11, C the carry out of bit 15, Z
unchanged (R223). -/
def Obligations.AddHlPair : Prop :=
  ∀ p : PairSp, RowIs (Instr.ofAddHl p) [BitVec.ofNat 8 (16 * p.code + 9)] .full
    ∧ ∀ s : State, ∃ t, exec (Instr.ofAddHl p) s = .next t
      ∧ t.hl = s.hl + s.pairSp p ∧ t.flag .n = false
      ∧ t.flag .h = decide (0x0FFF < s.hl.toNat % 0x1000 + (s.pairSp p).toNat % 0x1000)
      ∧ t.flag .c = decide (0xFFFF < s.hl.toNat + (s.pairSp p).toNat)
      ∧ t.sp = s.sp ∧ t.pc = s.pc ∧ Frame s t [.h, .l] [.n, .h, .c] []

/-- ADD SP,e: SP plus e with e signed; Z = N = 0, H and C from the unsigned addition of the low byte
of SP and the raw byte e (R224). -/
def Obligations.AddSpSignedOffset : Prop :=
  ∀ e : Byte, RowIs (.addSpE e) [0xE8#8, e] .full
    ∧ ∀ s : State, ∃ t, exec (.addSpE e) s = .next t
      ∧ t.sp = BitVec.ofInt 16 (s.sp.toNat + e.toInt)
      ∧ t.flag .z = false ∧ t.flag .n = false
      ∧ t.flag .h = decide (0x0F < s.sp.toNat % 0x10 + e.toNat % 0x10)
      ∧ t.flag .c = decide (0xFF < s.sp.toNat % 0x100 + e.toNat)
      ∧ t.pc = s.pc ∧ Frame s t [] [.z, .n, .h, .c] []

/-! ## Rotates, shifts and bits -/

/-- RLCA, RRCA, RLA and RRA: the rotated A, C the bit rotated out, Z = N = H = 0 (R240 to R243). -/
def Obligations.AccumulatorRotates : Prop :=
  RowIs .rlca [0x07#8] .full ∧ RowIs .rrca [0x0F#8] .full ∧ RowIs .rla [0x17#8] .full ∧ RowIs .rra [0x1F#8] .full
  ∧ ∀ s : State,
    ∀ x ∈ [(Instr.rlca, (2 * s.a.toNat + s.a.toNat / 0x80) % 0x100, s.a.getLsbD 7),
        (Instr.rrca, s.a.toNat / 2 + 0x80 * (s.a.toNat % 2), s.a.getLsbD 0),
        (Instr.rla, (2 * s.a.toNat + (s.flag .c).toNat) % 0x100, s.a.getLsbD 7),
        (Instr.rra, s.a.toNat / 2 + 0x80 * (s.flag .c).toNat, s.a.getLsbD 0)],
      ∃ t, exec x.1 s = .next t ∧ t.a.toNat = x.2.1 ∧ t.flag .c = x.2.2
        ∧ t.flag .z = false ∧ t.flag .n = false ∧ t.flag .h = false
        ∧ t.sp = s.sp ∧ t.pc = s.pc ∧ Frame s t [.a] [.z, .n, .h, .c] []

/-- BIT b,r: Z = NOT bit b, N = 0, H = 1, C unchanged, the operand not written (R251). -/
def Obligations.BitTestFlags : Prop :=
  ∀ (b : Fin 8) (o : Opnd8),
    RowIs (Instr.ofBit b o) [0xCB#8, opcodeByte 1 b.val o.code] (if o = .atHl then .full else .doc)
    ∧ ∀ s : State,
      (∀ v, operandValue s o = some v → ∃ t, exec (Instr.ofBit b o) s = .next t
        ∧ t.flag .z = !v.getLsbD b.val ∧ t.flag .n = false ∧ t.flag .h = true
        ∧ t.sp = s.sp ∧ t.pc = s.pc ∧ Frame s t [] [.z, .n, .h] [])
      ∧ (operandValue s o = none → exec (Instr.ofBit b o) s = .fault (.unmappedAddress s.hl))

/-- RL r: the operand shifted left by one with the old carry in bit 0, C the bit shifted out of
bit 7, Z from the result, N = H = 0 (R252; Z, N and H are decision D11). -/
def Obligations.RotateLeftThroughCarry : Prop :=
  ∀ o : Opnd8,
    RowIs (Instr.ofShift .rl o) [0xCB#8, opcodeByte 0 2 o.code] (if o = .atHl then .full else .doc)
    ∧ ∀ s : State,
      (∀ v, operandValue s o = some v → operandWritable s o →
        ∃ t, exec (Instr.ofShift .rl o) s = .next t
          ∧ operandHolds s t o (BitVec.ofNat 8 (2 * v.toNat + (s.flag .c).toNat))
          ∧ t.flag .z = decide ((2 * v.toNat + (s.flag .c).toNat) % 0x100 = 0)
          ∧ t.flag .n = false ∧ t.flag .h = false ∧ t.flag .c = decide (0x80 ≤ v.toNat)
          ∧ t.sp = s.sp ∧ t.pc = s.pc
          ∧ Frame s t (operandRegs o) [.z, .n, .h, .c] (operandBytes s o))
      ∧ (operandValue s o = none ∨ ¬operandWritable s o →
        exec (Instr.ofShift .rl o) s = .fault (.unmappedAddress s.hl))

/-- RLC, RRC, RR, SLA, SRA, SWAP and SRL: the result, C the bit shifted out (0 for SWAP), Z from the
result, N = H = 0 (R253 to R259). -/
def Obligations.ExtendedShifts : Prop :=
  ∀ op : ShiftOp, op ≠ .rl → ∀ o : Opnd8,
    RowIs (Instr.ofShift op o) [0xCB#8, opcodeByte 0 op.code o.code] .full
    ∧ ∀ s : State,
      (∀ v res out, operandValue s o = some v → operandWritable s o →
        (op, res, out) ∈ [(ShiftOp.rlc, (2 * v.toNat + v.toNat / 0x80) % 0x100, v.getLsbD 7),
          (.rrc, v.toNat / 2 + 0x80 * (v.toNat % 2), v.getLsbD 0),
          (.rr, v.toNat / 2 + 0x80 * (s.flag .c).toNat, v.getLsbD 0),
          (.sla, 2 * v.toNat % 0x100, v.getLsbD 7),
          (.sra, v.toNat / 2 + 0x80 * (v.toNat / 0x80), v.getLsbD 0),
          (.swap, 0x10 * (v.toNat % 0x10) + v.toNat / 0x10, false),
          (.srl, v.toNat / 2, v.getLsbD 0)] →
        ∃ t, exec (Instr.ofShift op o) s = .next t
          ∧ operandHolds s t o (BitVec.ofNat 8 res) ∧ t.flag .z = decide (res = 0)
          ∧ t.flag .n = false ∧ t.flag .h = false ∧ t.flag .c = out
          ∧ t.sp = s.sp ∧ t.pc = s.pc
          ∧ Frame s t (operandRegs o) [.z, .n, .h, .c] (operandBytes s o))
      ∧ (operandValue s o = none ∨ ¬operandWritable s o →
        exec (Instr.ofShift op o) s = .fault (.unmappedAddress s.hl))

/-- RES b,r and SET b,r: bit b of the operand cleared or set, every other bit kept, no flag
(R260, R261). -/
def Obligations.ResetAndSetBit : Prop :=
  ∀ (b : Fin 8) (o : Opnd8),
    RowIs (Instr.ofRes b o) [0xCB#8, opcodeByte 2 b.val o.code] .full
    ∧ RowIs (Instr.ofSet b o) [0xCB#8, opcodeByte 3 b.val o.code] .full
    ∧ ∀ s : State, ∀ x ∈ [(Instr.ofRes b o, false), (Instr.ofSet b o, true)],
      (∀ v, operandValue s o = some v → operandWritable s o →
        ∃ t res, exec x.1 s = .next t ∧ operandHolds s t o res
          ∧ res.getLsbD b.val = x.2 ∧ (∀ j, j ≠ b.val → res.getLsbD j = v.getLsbD j)
          ∧ t.sp = s.sp ∧ t.pc = s.pc ∧ Frame s t (operandRegs o) [] (operandBytes s o))
      ∧ (operandValue s o = none ∨ ¬operandWritable s o → exec x.1 s = .fault (.unmappedAddress s.hl))

/-- The row of the lead-in 0xCB, with its second byte: it is the extended row that byte selects, or
UnimplementedOpcode with the second byte and the address of the 0xCB byte where the preset lacks it;
a register operand never stops it (R103, R341). -/
def Obligations.LeadInRunsExtendedRow : Prop :=
  ∀ (b : Byte) (s : State),
    (implExt s.params.impl b = true → exec (.cbPrefix b) s = exec (extRow b) s)
    ∧ (implExt s.params.impl b = false →
      exec (.cbPrefix b) s = .next { s with
        status := .faulted (.unimplementedOpcode true b (s.pc - 2#16)) })
    ∧ (implExt s.params.impl b = true →
      b.toNat % 8 ≠ 6 ∨ (s.mem.readByte s.hl ≠ none ∧ s.mem.under s.hl ≠ none) →
      ∃ t, exec (.cbPrefix b) s = .next t ∧ t.sp = s.sp ∧ t.pc = s.pc ∧ t.status = s.status)

/-! ## Control transfer -/

/-- JR e and JR cc,e: pc, past the offset byte, plus the signed offset modulo 2^16, if the condition
holds; otherwise nothing more; no flag (R280, R281, R282). -/
def Obligations.RelativeJumps : Prop :=
  ∀ e : Byte,
    RowIs (.jrE e) [0x18#8, e] .doc
    ∧ (∀ s : State, exec (.jrE e) s = .next { s with pc := BitVec.ofInt 16 (s.pc.toNat + e.toInt) })
    ∧ ∀ cc : Cond, RowIs (Instr.ofJr cc e) [opcodeByte 0 (4 + cc.code) 0, e] .doc
      ∧ ∀ s : State, exec (Instr.ofJr cc e) s = .next { s with
          pc := if (match cc with
              | .nz => !s.f.getLsbD 7
              | .z => s.f.getLsbD 7
              | .nc => !s.f.getLsbD 4
              | .c => s.f.getLsbD 4) = true
            then BitVec.ofInt 16 (s.pc.toNat + e.toInt) else s.pc }

/-- JP nn, JP cc,nn and JP (HL): pc becomes the target, unchecked; JP (HL) reads no memory
(R286, R287, R288). -/
def Obligations.AbsoluteJumps : Prop :=
  RowIs .jpAtHl [0xE9#8] .full
  ∧ (∀ s : State, exec .jpAtHl s = .next { s with pc := s.h ++ s.l })
  ∧ ∀ nn : Word,
    RowIs (.jpNn nn) [0xC3#8, nn.extractLsb' 0 8, nn.extractLsb' 8 8] .full
    ∧ (∀ s : State, exec (.jpNn nn) s = .next { s with pc := nn })
    ∧ ∀ cc : Cond,
      RowIs (Instr.ofJp cc nn) [opcodeByte 3 cc.code 2, nn.extractLsb' 0 8, nn.extractLsb' 8 8] .full
      ∧ ∀ s : State, exec (Instr.ofJp cc nn) s = .next { s with pc := if s.cond cc = true then nn else s.pc }

/-- CALL nn, CALL cc,nn and RST t: pc, the return address, pushed high byte first below SP, SP minus
2, pc at the target; a failed condition touches nothing; an unmapped stack byte stops it with its
address, the one at SP - 1 first (R283, R284, R290). -/
def Obligations.CallsPushTheReturnAddress : Prop :=
  ∀ (nn : Word) (cc : Cond) (y : Fin 8),
    RowIs (.callNn nn) [0xCD#8, nn.extractLsb' 0 8, nn.extractLsb' 8 8] .doc
    ∧ RowIs (Instr.ofCall cc nn) [opcodeByte 3 cc.code 4, nn.extractLsb' 0 8, nn.extractLsb' 8 8] .doc
    ∧ RowIs (Instr.ofRst y) [opcodeByte 3 y.val 7] .full
    ∧ ∀ s : State,
      (s.cond cc = false → exec (Instr.ofCall cc nn) s = .next s)
      ∧ ∀ x ∈ [(Instr.callNn nn, nn, true), (Instr.ofCall cc nn, nn, s.cond cc),
          (Instr.ofRst y, BitVec.ofNat 16 (8 * y.val), true)], x.2.2 = true →
        (s.mem.under (s.sp - 1#16) ≠ none → s.mem.under (s.sp - 2#16) ≠ none →
          ∃ t, exec x.1 s = .next t ∧ t.pc = x.2.1 ∧ t.sp = s.sp - 2#16
            ∧ t.mem.under (s.sp - 1#16) = some (s.pc.extractLsb' 8 8)
            ∧ t.mem.under (s.sp - 2#16) = some (s.pc.extractLsb' 0 8)
            ∧ Frame s t [] [] [s.sp - 1#16, s.sp - 2#16])
        ∧ (s.mem.under (s.sp - 1#16) = none → exec x.1 s = .fault (.unmappedAddress (s.sp - 1#16)))
        ∧ (s.mem.under (s.sp - 1#16) ≠ none → s.mem.under (s.sp - 2#16) = none →
          exec x.1 s = .fault (.unmappedAddress (s.sp - 2#16)))

/-- RET and RET cc: pc from the word at SP, low byte first, SP plus 2; a failed condition touches
nothing; an unmapped stack byte stops it with its address (R285, R289). -/
def Obligations.ReturnsPopTheAddress : Prop :=
  RowIs .ret [0xC9#8] .doc
  ∧ ∀ cc : Cond, RowIs (Instr.ofRet cc) [opcodeByte 3 cc.code 0] .full
    ∧ ∀ s : State,
      (s.cond cc = false → exec (Instr.ofRet cc) s = .next s)
      ∧ ∀ x ∈ [(Instr.ret, true), (Instr.ofRet cc, s.cond cc)], x.2 = true →
        (∀ lo hi, s.mem.readByte s.sp = some lo → s.mem.readByte (s.sp + 1#16) = some hi →
          exec x.1 s = .next { s with pc := hi ++ lo, sp := s.sp + 2#16 })
        ∧ (s.mem.readByte s.sp = none → exec x.1 s = .fault (.unmappedAddress s.sp))
        ∧ (∀ lo, s.mem.readByte s.sp = some lo → s.mem.readByte (s.sp + 1#16) = none →
          exec x.1 s = .fault (.unmappedAddress (s.sp + 1#16)))

/-- A CALL and the RET that follows it at its target leave pc at the return address and SP as it was,
where the two stack bytes are mapped and the overlay does not hide them (R291). -/
def Obligations.ReturnUndoesCall : Prop :=
  ∀ (s : State) (nn ret : Word),
    s.mem.under (s.sp - 1#16) ≠ none → s.mem.under (s.sp - 2#16) ≠ none →
    (s.mem.bootOverlayActive = false ∨ (0x00FF < (s.sp - 1#16).toNat ∧ 0x00FF < (s.sp - 2#16).toNat)) →
    ∃ t, exec (.callNn nn) s = .next t ∧ t.pc = nn
      ∧ ∃ u, exec .ret (t.setPc ret) = .next u ∧ u.pc = s.pc ∧ u.sp = s.sp
        ∧ Frame s u [] [] [s.sp - 1#16, s.sp - 2#16]

/-! ## Stack -/

/-- PUSH rr: the high half at SP - 1, then the low half at SP - 2, SP minus 2, no register or flag
changed; an unmapped stack byte stops it with its address (R310). -/
def Obligations.PushPair : Prop :=
  ∀ p : PairAf, RowIs (Instr.ofPush p) [BitVec.ofNat 8 (0xC0 + 16 * p.code + 5)] .doc
    ∧ ∀ s : State,
      (s.mem.under (s.sp - 1#16) ≠ none → s.mem.under (s.sp - 2#16) ≠ none →
        ∃ t, exec (Instr.ofPush p) s = .next t ∧ t.pc = s.pc ∧ t.sp = s.sp - 2#16
          ∧ t.mem.under (s.sp - 1#16) = some ((s.pairAf p).extractLsb' 8 8)
          ∧ t.mem.under (s.sp - 2#16) = some ((s.pairAf p).extractLsb' 0 8)
          ∧ t.f = s.f ∧ Frame s t [] [] [s.sp - 1#16, s.sp - 2#16])
      ∧ (s.mem.under (s.sp - 1#16) = none →
        exec (Instr.ofPush p) s = .fault (.unmappedAddress (s.sp - 1#16)))
      ∧ (s.mem.under (s.sp - 1#16) ≠ none → s.mem.under (s.sp - 2#16) = none →
        exec (Instr.ofPush p) s = .fault (.unmappedAddress (s.sp - 2#16)))

/-- POP rr: the pair from the word at SP, SP plus 2; POP AF takes F[7:4] from the low byte and clears
F[3:0], the others write no flag; an unmapped stack byte stops it with its address (R311, R33). -/
def Obligations.PopPair : Prop :=
  ∀ p : PairAf, RowIs (Instr.ofPop p) [BitVec.ofNat 8 (0xC0 + 16 * p.code + 1)] .doc
    ∧ ∀ s : State,
      (∀ lo hi, s.mem.readByte s.sp = some lo → s.mem.readByte (s.sp + 1#16) = some hi →
        exec (Instr.ofPop p) s = .next (match p with
          | .bc => { s with b := hi, c := lo, sp := s.sp + 2#16 }
          | .de => { s with d := hi, e := lo, sp := s.sp + 2#16 }
          | .hl => { s with h := hi, l := lo, sp := s.sp + 2#16 }
          | .af => { s with a := hi, f := lo &&& 0xF0#8, sp := s.sp + 2#16 }))
      ∧ (s.mem.readByte s.sp = none → exec (Instr.ofPop p) s = .fault (.unmappedAddress s.sp))
      ∧ (∀ lo, s.mem.readByte s.sp = some lo → s.mem.readByte (s.sp + 1#16) = none →
        exec (Instr.ofPop p) s = .fault (.unmappedAddress (s.sp + 1#16)))

/-- PUSH rr followed by POP rr leaves every register, flag and SP as they were, where the two stack
bytes are mapped, the overlay does not hide them and F[3:0] = 0 (R312, R85, R38). -/
def Obligations.PopUndoesPush : Prop :=
  ∀ (p : PairAf) (s : State), s.inv = true →
    s.mem.under (s.sp - 1#16) ≠ none → s.mem.under (s.sp - 2#16) ≠ none →
    (s.mem.bootOverlayActive = false ∨ (0x00FF < (s.sp - 1#16).toNat ∧ 0x00FF < (s.sp - 2#16).toNat)) →
    ∃ t, exec (Instr.ofPush p) s = .next t
      ∧ ∃ m, exec (Instr.ofPop p) t = .next { s with mem := m }
        ∧ ∀ a, a ≠ s.sp - 1#16 → a ≠ s.sp - 2#16 → m.readByte a = s.mem.readByte a ∧ m.under a = s.mem.under a

/-! ## No operation and refused opcodes -/

/-- NOP does nothing but let pc stand past its byte, and is in preset FULL only (R320). -/
def Obligations.NopChangesNothing : Prop :=
  RowIs .nop [0x00#8] .full ∧ ∀ s : State, exec .nop s = .next s

/-- STOP, HALT, DI, EI, RETI and the eleven holes raise UnimplementedOpcode(false, op, address) in
both presets: the run status is Faulted and nothing else changes (R322, R323, R343). -/
def Obligations.RefusedOpcodesRaise : Prop :=
  ∀ x ∈ [(Instr.stop, 0x10#8), (Instr.halt, 0x76#8), (Instr.di, 0xF3#8), (Instr.ei, 0xFB#8),
      (Instr.reti, 0xD9#8), (Instr.illegalD3, 0xD3#8), (Instr.illegalDB, 0xDB#8), (Instr.illegalDD, 0xDD#8),
      (Instr.illegalE3, 0xE3#8), (Instr.illegalE4, 0xE4#8), (Instr.illegalEB, 0xEB#8), (Instr.illegalEC, 0xEC#8),
      (Instr.illegalED, 0xED#8), (Instr.illegalF4, 0xF4#8), (Instr.illegalFC, 0xFC#8), (Instr.illegalFD, 0xFD#8)],
    RowIs x.1 [x.2] .refused
    ∧ ∀ s : State, exec x.1 s = .next { s with
        status := .faulted (.unimplementedOpcode false x.2 (s.pc - 1#16)) }

/-! ## The whole machine -/

/-- Every step keeps the invariant: F[3:0] = 0 (R38), the memory in canonical form and within its
buffers, the overlay active only over a boot image (R44). -/
def Obligations.StepKeepsInvariant : Prop :=
  ∀ s t : State, s.inv = true → step s = .next t → t.inv = true

/-- The invariant holds after every construction, and so at reset (R38, R48). -/
def Obligations.ConstructHasInvariant : Prop :=
  (∀ (p : Params) (r : RegInit) (boot rom : List Byte), (State.construct p r boot rom).inv = true)
  ∧ State.reset.inv = true

/-- The table of reset values, for every image and every REG_INIT (R48): SP, pc and latch by
boot_present, the buffers, F[3:0] = 0 and the run status. -/
def Obligations.ConstructResetValues : Prop :=
  ∀ (p : Params) (r : RegInit) (boot rom : List Byte),
    let s := State.construct p r boot rom
    s.sp = 0xFFFE#16
    ∧ s.pc = (if 0 < boot.length then 0x0000#16 else 0x0100#16)
    ∧ s.mem.bootOverlayActive = decide (0 < boot.length)
    ∧ (s.a, s.f, s.b, s.c, s.d, s.e, s.h, s.l) = (r.a, r.f &&& 0xF0#8, r.b, r.c, r.d, r.e, r.h, r.l)
    ∧ s.mem.boot = boot ∧ s.mem.cartLen = rom.length
    ∧ (∀ k v, rom[k]? = some v → cellsGet s.mem.cart k = v)
    ∧ (∀ a : Word, 0x8000 ≤ a.toNat → a.toNat ≤ 0x9FFF ∨ 0xFF00 ≤ a.toNat → a.toNat ≤ 0xFFFE →
        s.mem.readByte a = some 0x00#8)
    ∧ s.status = .running ∧ s.params = p

/-- The only stop of an instruction is UnmappedAddress at an address that no read or no write maps,
and no instruction is refused: overflow, SP and pc wrapping, cartridge writes and loads into itself
are no errors (R341). -/
def Obligations.ExecStopsOnlyAtUnmappedAddresses : Prop :=
  ∀ (i : Instr) (s : State),
    (∃ t, exec i s = .next t)
    ∨ (∃ a, exec i s = .fault (.unmappedAddress a) ∧ (s.mem.readByte a = none ∨ s.mem.under a = none))

/-- No instruction writes the latch, the boot image, a buffer's length or a parameter, and the only
instructions that change the run status raise UnimplementedOpcode (R44, R45, R76, R349). -/
def Obligations.ExecKeepsConfiguration : Prop :=
  ∀ (i : Instr) (s t : State), exec i s = .next t →
    t.mem.bootOverlayActive = s.mem.bootOverlayActive ∧ t.mem.boot = s.mem.boot
    ∧ t.mem.cartLen = s.mem.cartLen ∧ t.params = s.params
    ∧ (t.status = s.status ∨ ∃ x op a, t.status = .faulted (.unimplementedOpcode x op a))
end

