-- ==== Sys2Proof/Laws/Decode.lean ====
section
/-! SUPPORT. The two tables read by fields agree with the encoder, row by row (spec/30_encoding.md
R104, R114, R115), and the presets are a matter of the opcode bytes. -/

namespace Sys2Proof

/-- A fact about every byte, from its 256 cases. -/
theorem byte_cases {P : Byte → Prop} (h : ∀ n : Fin 256, P (BitVec.ofFin n)) (b : Byte) : P b := h b.toFin

/-- A base row's instructions are well formed and are encoded by the row's byte and their operands. -/
def Row.matchesByte (op : Byte) : Row → Prop
  | .op i => i.wellFormed = true ∧ encode i = [op]
  | .opN f => ∀ n, (f n).wellFormed = true ∧ encode (f n) = [op, n]
  | .opNN f => ∀ nn, (f nn).wellFormed = true ∧ encode (f nn) = [op, loByte nn, hiByte nn]

/-- Every base row but the lead-in's matches its byte. -/
theorem baseRow_matches (op : Byte) : op ≠ 0xCB#8 → (baseRow op).matchesByte op := by
  revert op
  apply byte_cases
  intro n
  fin_cases n <;> intro h <;> first
    | exact ⟨rfl, rfl⟩
    | exact fun _ => ⟨rfl, rfl⟩
    | exact absurd rfl h

/-- The lead-in's row takes the second byte as its operand. -/
theorem baseRow_leadIn : baseRow 0xCB#8 = .opN .cbPrefix := rfl

/-- Every extended row matches its byte. -/
theorem extRow_matches (op2 : Byte) :
    (extRow op2).wellFormed = true ∧ encode (extRow op2) = [0xCB#8, op2] := by
  revert op2
  apply byte_cases
  intro n
  fin_cases n <;> exact ⟨rfl, rfl⟩

/-- Whether a preset executes an instruction is a matter of its first opcode byte. -/
theorem implementedBytes_base (impl : Impl) {op : Byte} (h : op ≠ 0xCB#8) (rest : List Byte) :
    implementedBytes impl (op :: rest) = implBase impl op := by
  simp [implementedBytes, h]

/-- After the lead-in it is a matter of the second byte. -/
theorem implementedBytes_ext (impl : Impl) (op2 : Byte) (rest : List Byte) :
    implementedBytes impl (0xCB#8 :: op2 :: rest) = implExt impl op2 := rfl

/-- The preset's test of an extended row. -/
theorem extRow_implemented (impl : Impl) (op2 : Byte) : (extRow op2).implemented impl = implExt impl op2 := by
  rw [Instr.implemented, (extRow_matches op2).2, implementedBytes_ext]

end Sys2Proof
end

