-- ==== Sys2Proof/Laws/State.lean ====
section
/-! SUPPORT. One lemma per field per update of the state, true by unfolding, so that no proof
unfolds a record update; then the register file's accessors over each update. -/

namespace Sys2Proof.Machine

variable (s : State)

/-! ### setBc -/

@[simp] theorem State.setBc_a (v : Word) :
    (s.setBc v).a = s.a := rfl
@[simp] theorem State.setBc_f (v : Word) :
    (s.setBc v).f = s.f := rfl
@[simp] theorem State.setBc_b (v : Word) :
    (s.setBc v).b = hiByte v := rfl
@[simp] theorem State.setBc_c (v : Word) :
    (s.setBc v).c = loByte v := rfl
@[simp] theorem State.setBc_d (v : Word) :
    (s.setBc v).d = s.d := rfl
@[simp] theorem State.setBc_e (v : Word) :
    (s.setBc v).e = s.e := rfl
@[simp] theorem State.setBc_h (v : Word) :
    (s.setBc v).h = s.h := rfl
@[simp] theorem State.setBc_l (v : Word) :
    (s.setBc v).l = s.l := rfl
@[simp] theorem State.setBc_sp (v : Word) :
    (s.setBc v).sp = s.sp := rfl
@[simp] theorem State.setBc_pc (v : Word) :
    (s.setBc v).pc = s.pc := rfl
@[simp] theorem State.setBc_mem (v : Word) :
    (s.setBc v).mem = s.mem := rfl
@[simp] theorem State.setBc_status (v : Word) :
    (s.setBc v).status = s.status := rfl
@[simp] theorem State.setBc_params (v : Word) :
    (s.setBc v).params = s.params := rfl

/-! ### setDe -/

@[simp] theorem State.setDe_a (v : Word) :
    (s.setDe v).a = s.a := rfl
@[simp] theorem State.setDe_f (v : Word) :
    (s.setDe v).f = s.f := rfl
@[simp] theorem State.setDe_b (v : Word) :
    (s.setDe v).b = s.b := rfl
@[simp] theorem State.setDe_c (v : Word) :
    (s.setDe v).c = s.c := rfl
@[simp] theorem State.setDe_d (v : Word) :
    (s.setDe v).d = hiByte v := rfl
@[simp] theorem State.setDe_e (v : Word) :
    (s.setDe v).e = loByte v := rfl
@[simp] theorem State.setDe_h (v : Word) :
    (s.setDe v).h = s.h := rfl
@[simp] theorem State.setDe_l (v : Word) :
    (s.setDe v).l = s.l := rfl
@[simp] theorem State.setDe_sp (v : Word) :
    (s.setDe v).sp = s.sp := rfl
@[simp] theorem State.setDe_pc (v : Word) :
    (s.setDe v).pc = s.pc := rfl
@[simp] theorem State.setDe_mem (v : Word) :
    (s.setDe v).mem = s.mem := rfl
@[simp] theorem State.setDe_status (v : Word) :
    (s.setDe v).status = s.status := rfl
@[simp] theorem State.setDe_params (v : Word) :
    (s.setDe v).params = s.params := rfl

/-! ### setHl -/

@[simp] theorem State.setHl_a (v : Word) :
    (s.setHl v).a = s.a := rfl
@[simp] theorem State.setHl_f (v : Word) :
    (s.setHl v).f = s.f := rfl
@[simp] theorem State.setHl_b (v : Word) :
    (s.setHl v).b = s.b := rfl
@[simp] theorem State.setHl_c (v : Word) :
    (s.setHl v).c = s.c := rfl
@[simp] theorem State.setHl_d (v : Word) :
    (s.setHl v).d = s.d := rfl
@[simp] theorem State.setHl_e (v : Word) :
    (s.setHl v).e = s.e := rfl
@[simp] theorem State.setHl_h (v : Word) :
    (s.setHl v).h = hiByte v := rfl
@[simp] theorem State.setHl_l (v : Word) :
    (s.setHl v).l = loByte v := rfl
@[simp] theorem State.setHl_sp (v : Word) :
    (s.setHl v).sp = s.sp := rfl
@[simp] theorem State.setHl_pc (v : Word) :
    (s.setHl v).pc = s.pc := rfl
@[simp] theorem State.setHl_mem (v : Word) :
    (s.setHl v).mem = s.mem := rfl
@[simp] theorem State.setHl_status (v : Word) :
    (s.setHl v).status = s.status := rfl
@[simp] theorem State.setHl_params (v : Word) :
    (s.setHl v).params = s.params := rfl

/-! ### setAf -/

@[simp] theorem State.setAf_a (v : Word) :
    (s.setAf v).a = hiByte v := rfl
@[simp] theorem State.setAf_f (v : Word) :
    (s.setAf v).f = loByte v &&& 0xF0#8 := rfl
@[simp] theorem State.setAf_b (v : Word) :
    (s.setAf v).b = s.b := rfl
@[simp] theorem State.setAf_c (v : Word) :
    (s.setAf v).c = s.c := rfl
@[simp] theorem State.setAf_d (v : Word) :
    (s.setAf v).d = s.d := rfl
@[simp] theorem State.setAf_e (v : Word) :
    (s.setAf v).e = s.e := rfl
@[simp] theorem State.setAf_h (v : Word) :
    (s.setAf v).h = s.h := rfl
@[simp] theorem State.setAf_l (v : Word) :
    (s.setAf v).l = s.l := rfl
@[simp] theorem State.setAf_sp (v : Word) :
    (s.setAf v).sp = s.sp := rfl
@[simp] theorem State.setAf_pc (v : Word) :
    (s.setAf v).pc = s.pc := rfl
@[simp] theorem State.setAf_mem (v : Word) :
    (s.setAf v).mem = s.mem := rfl
@[simp] theorem State.setAf_status (v : Word) :
    (s.setAf v).status = s.status := rfl
@[simp] theorem State.setAf_params (v : Word) :
    (s.setAf v).params = s.params := rfl

/-! ### setSp -/

@[simp] theorem State.setSp_a (v : Word) :
    (s.setSp v).a = s.a := rfl
@[simp] theorem State.setSp_f (v : Word) :
    (s.setSp v).f = s.f := rfl
@[simp] theorem State.setSp_b (v : Word) :
    (s.setSp v).b = s.b := rfl
@[simp] theorem State.setSp_c (v : Word) :
    (s.setSp v).c = s.c := rfl
@[simp] theorem State.setSp_d (v : Word) :
    (s.setSp v).d = s.d := rfl
@[simp] theorem State.setSp_e (v : Word) :
    (s.setSp v).e = s.e := rfl
@[simp] theorem State.setSp_h (v : Word) :
    (s.setSp v).h = s.h := rfl
@[simp] theorem State.setSp_l (v : Word) :
    (s.setSp v).l = s.l := rfl
@[simp] theorem State.setSp_sp (v : Word) :
    (s.setSp v).sp = v := rfl
@[simp] theorem State.setSp_pc (v : Word) :
    (s.setSp v).pc = s.pc := rfl
@[simp] theorem State.setSp_mem (v : Word) :
    (s.setSp v).mem = s.mem := rfl
@[simp] theorem State.setSp_status (v : Word) :
    (s.setSp v).status = s.status := rfl
@[simp] theorem State.setSp_params (v : Word) :
    (s.setSp v).params = s.params := rfl

/-! ### setPc -/

@[simp] theorem State.setPc_a (v : Word) :
    (s.setPc v).a = s.a := rfl
@[simp] theorem State.setPc_f (v : Word) :
    (s.setPc v).f = s.f := rfl
@[simp] theorem State.setPc_b (v : Word) :
    (s.setPc v).b = s.b := rfl
@[simp] theorem State.setPc_c (v : Word) :
    (s.setPc v).c = s.c := rfl
@[simp] theorem State.setPc_d (v : Word) :
    (s.setPc v).d = s.d := rfl
@[simp] theorem State.setPc_e (v : Word) :
    (s.setPc v).e = s.e := rfl
@[simp] theorem State.setPc_h (v : Word) :
    (s.setPc v).h = s.h := rfl
@[simp] theorem State.setPc_l (v : Word) :
    (s.setPc v).l = s.l := rfl
@[simp] theorem State.setPc_sp (v : Word) :
    (s.setPc v).sp = s.sp := rfl
@[simp] theorem State.setPc_pc (v : Word) :
    (s.setPc v).pc = v := rfl
@[simp] theorem State.setPc_mem (v : Word) :
    (s.setPc v).mem = s.mem := rfl
@[simp] theorem State.setPc_status (v : Word) :
    (s.setPc v).status = s.status := rfl
@[simp] theorem State.setPc_params (v : Word) :
    (s.setPc v).params = s.params := rfl

/-! ### setFlag -/

@[simp] theorem State.setFlag_a (k : Flag) (x : Bool) :
    (s.setFlag k x).a = s.a := rfl
@[simp] theorem State.setFlag_f (k : Flag) (x : Bool) :
    (s.setFlag k x).f = putFlag s.f k x := rfl
@[simp] theorem State.setFlag_b (k : Flag) (x : Bool) :
    (s.setFlag k x).b = s.b := rfl
@[simp] theorem State.setFlag_c (k : Flag) (x : Bool) :
    (s.setFlag k x).c = s.c := rfl
@[simp] theorem State.setFlag_d (k : Flag) (x : Bool) :
    (s.setFlag k x).d = s.d := rfl
@[simp] theorem State.setFlag_e (k : Flag) (x : Bool) :
    (s.setFlag k x).e = s.e := rfl
@[simp] theorem State.setFlag_h (k : Flag) (x : Bool) :
    (s.setFlag k x).h = s.h := rfl
@[simp] theorem State.setFlag_l (k : Flag) (x : Bool) :
    (s.setFlag k x).l = s.l := rfl
@[simp] theorem State.setFlag_sp (k : Flag) (x : Bool) :
    (s.setFlag k x).sp = s.sp := rfl
@[simp] theorem State.setFlag_pc (k : Flag) (x : Bool) :
    (s.setFlag k x).pc = s.pc := rfl
@[simp] theorem State.setFlag_mem (k : Flag) (x : Bool) :
    (s.setFlag k x).mem = s.mem := rfl
@[simp] theorem State.setFlag_status (k : Flag) (x : Bool) :
    (s.setFlag k x).status = s.status := rfl
@[simp] theorem State.setFlag_params (k : Flag) (x : Bool) :
    (s.setFlag k x).params = s.params := rfl

/-! ### setZNH -/

@[simp] theorem State.setZNH_a (z n h : Bool) :
    (s.setZNH z n h).a = s.a := rfl
@[simp] theorem State.setZNH_f (z n h : Bool) :
    (s.setZNH z n h).f = putFlag (putFlag (putFlag s.f .z z) .n n) .h h := rfl
@[simp] theorem State.setZNH_b (z n h : Bool) :
    (s.setZNH z n h).b = s.b := rfl
@[simp] theorem State.setZNH_c (z n h : Bool) :
    (s.setZNH z n h).c = s.c := rfl
@[simp] theorem State.setZNH_d (z n h : Bool) :
    (s.setZNH z n h).d = s.d := rfl
@[simp] theorem State.setZNH_e (z n h : Bool) :
    (s.setZNH z n h).e = s.e := rfl
@[simp] theorem State.setZNH_h (z n h : Bool) :
    (s.setZNH z n h).h = s.h := rfl
@[simp] theorem State.setZNH_l (z n h : Bool) :
    (s.setZNH z n h).l = s.l := rfl
@[simp] theorem State.setZNH_sp (z n h : Bool) :
    (s.setZNH z n h).sp = s.sp := rfl
@[simp] theorem State.setZNH_pc (z n h : Bool) :
    (s.setZNH z n h).pc = s.pc := rfl
@[simp] theorem State.setZNH_mem (z n h : Bool) :
    (s.setZNH z n h).mem = s.mem := rfl
@[simp] theorem State.setZNH_status (z n h : Bool) :
    (s.setZNH z n h).status = s.status := rfl
@[simp] theorem State.setZNH_params (z n h : Bool) :
    (s.setZNH z n h).params = s.params := rfl

/-! ### setNHC -/

@[simp] theorem State.setNHC_a (n h c : Bool) :
    (s.setNHC n h c).a = s.a := rfl
@[simp] theorem State.setNHC_f (n h c : Bool) :
    (s.setNHC n h c).f = putFlag (putFlag (putFlag s.f .n n) .h h) .c c := rfl
@[simp] theorem State.setNHC_b (n h c : Bool) :
    (s.setNHC n h c).b = s.b := rfl
@[simp] theorem State.setNHC_c (n h c : Bool) :
    (s.setNHC n h c).c = s.c := rfl
@[simp] theorem State.setNHC_d (n h c : Bool) :
    (s.setNHC n h c).d = s.d := rfl
@[simp] theorem State.setNHC_e (n h c : Bool) :
    (s.setNHC n h c).e = s.e := rfl
@[simp] theorem State.setNHC_h (n h c : Bool) :
    (s.setNHC n h c).h = s.h := rfl
@[simp] theorem State.setNHC_l (n h c : Bool) :
    (s.setNHC n h c).l = s.l := rfl
@[simp] theorem State.setNHC_sp (n h c : Bool) :
    (s.setNHC n h c).sp = s.sp := rfl
@[simp] theorem State.setNHC_pc (n h c : Bool) :
    (s.setNHC n h c).pc = s.pc := rfl
@[simp] theorem State.setNHC_mem (n h c : Bool) :
    (s.setNHC n h c).mem = s.mem := rfl
@[simp] theorem State.setNHC_status (n h c : Bool) :
    (s.setNHC n h c).status = s.status := rfl
@[simp] theorem State.setNHC_params (n h c : Bool) :
    (s.setNHC n h c).params = s.params := rfl

/-! ### setZNHC -/

@[simp] theorem State.setZNHC_a (z n h c : Bool) :
    (s.setZNHC z n h c).a = s.a := rfl
@[simp] theorem State.setZNHC_f (z n h c : Bool) :
    (s.setZNHC z n h c).f = putFlag (putFlag (putFlag (putFlag s.f .z z) .n n) .h h) .c c := rfl
@[simp] theorem State.setZNHC_b (z n h c : Bool) :
    (s.setZNHC z n h c).b = s.b := rfl
@[simp] theorem State.setZNHC_c (z n h c : Bool) :
    (s.setZNHC z n h c).c = s.c := rfl
@[simp] theorem State.setZNHC_d (z n h c : Bool) :
    (s.setZNHC z n h c).d = s.d := rfl
@[simp] theorem State.setZNHC_e (z n h c : Bool) :
    (s.setZNHC z n h c).e = s.e := rfl
@[simp] theorem State.setZNHC_h (z n h c : Bool) :
    (s.setZNHC z n h c).h = s.h := rfl
@[simp] theorem State.setZNHC_l (z n h c : Bool) :
    (s.setZNHC z n h c).l = s.l := rfl
@[simp] theorem State.setZNHC_sp (z n h c : Bool) :
    (s.setZNHC z n h c).sp = s.sp := rfl
@[simp] theorem State.setZNHC_pc (z n h c : Bool) :
    (s.setZNHC z n h c).pc = s.pc := rfl
@[simp] theorem State.setZNHC_mem (z n h c : Bool) :
    (s.setZNHC z n h c).mem = s.mem := rfl
@[simp] theorem State.setZNHC_status (z n h c : Bool) :
    (s.setZNHC z n h c).status = s.status := rfl
@[simp] theorem State.setZNHC_params (z n h c : Bool) :
    (s.setZNHC z n h c).params = s.params := rfl

/-! ### raiseUnimplemented -/

@[simp] theorem State.raiseUnimplemented_a (x : Bool) (op : Byte) (w : Word) :
    (s.raiseUnimplemented x op w).a = s.a := rfl
@[simp] theorem State.raiseUnimplemented_f (x : Bool) (op : Byte) (w : Word) :
    (s.raiseUnimplemented x op w).f = s.f := rfl
@[simp] theorem State.raiseUnimplemented_b (x : Bool) (op : Byte) (w : Word) :
    (s.raiseUnimplemented x op w).b = s.b := rfl
@[simp] theorem State.raiseUnimplemented_c (x : Bool) (op : Byte) (w : Word) :
    (s.raiseUnimplemented x op w).c = s.c := rfl
@[simp] theorem State.raiseUnimplemented_d (x : Bool) (op : Byte) (w : Word) :
    (s.raiseUnimplemented x op w).d = s.d := rfl
@[simp] theorem State.raiseUnimplemented_e (x : Bool) (op : Byte) (w : Word) :
    (s.raiseUnimplemented x op w).e = s.e := rfl
@[simp] theorem State.raiseUnimplemented_h (x : Bool) (op : Byte) (w : Word) :
    (s.raiseUnimplemented x op w).h = s.h := rfl
@[simp] theorem State.raiseUnimplemented_l (x : Bool) (op : Byte) (w : Word) :
    (s.raiseUnimplemented x op w).l = s.l := rfl
@[simp] theorem State.raiseUnimplemented_sp (x : Bool) (op : Byte) (w : Word) :
    (s.raiseUnimplemented x op w).sp = s.sp := rfl
@[simp] theorem State.raiseUnimplemented_pc (x : Bool) (op : Byte) (w : Word) :
    (s.raiseUnimplemented x op w).pc = s.pc := rfl
@[simp] theorem State.raiseUnimplemented_mem (x : Bool) (op : Byte) (w : Word) :
    (s.raiseUnimplemented x op w).mem = s.mem := rfl
@[simp] theorem State.raiseUnimplemented_status (x : Bool) (op : Byte) (w : Word) :
    (s.raiseUnimplemented x op w).status = .faulted (.unimplementedOpcode x op w) := rfl
@[simp] theorem State.raiseUnimplemented_params (x : Bool) (op : Byte) (w : Word) :
    (s.raiseUnimplemented x op w).params = s.params := rfl

/-! ### disableBootOverlay -/

@[simp] theorem State.disableBootOverlay_a :
    (s.disableBootOverlay).a = s.a := rfl
@[simp] theorem State.disableBootOverlay_f :
    (s.disableBootOverlay).f = s.f := rfl
@[simp] theorem State.disableBootOverlay_b :
    (s.disableBootOverlay).b = s.b := rfl
@[simp] theorem State.disableBootOverlay_c :
    (s.disableBootOverlay).c = s.c := rfl
@[simp] theorem State.disableBootOverlay_d :
    (s.disableBootOverlay).d = s.d := rfl
@[simp] theorem State.disableBootOverlay_e :
    (s.disableBootOverlay).e = s.e := rfl
@[simp] theorem State.disableBootOverlay_h :
    (s.disableBootOverlay).h = s.h := rfl
@[simp] theorem State.disableBootOverlay_l :
    (s.disableBootOverlay).l = s.l := rfl
@[simp] theorem State.disableBootOverlay_sp :
    (s.disableBootOverlay).sp = s.sp := rfl
@[simp] theorem State.disableBootOverlay_pc :
    (s.disableBootOverlay).pc = s.pc := rfl
@[simp] theorem State.disableBootOverlay_mem :
    (s.disableBootOverlay).mem = { s.mem with bootOverlayActive := false } := rfl
@[simp] theorem State.disableBootOverlay_status :
    (s.disableBootOverlay).status = s.status := rfl
@[simp] theorem State.disableBootOverlay_params :
    (s.disableBootOverlay).params = s.params := rfl

/-! ### setReg -/

@[simp] theorem State.setReg_f (r : Reg8) (v : Byte) :
    (s.setReg r v).f = s.f := by cases r <;> rfl
@[simp] theorem State.setReg_sp (r : Reg8) (v : Byte) :
    (s.setReg r v).sp = s.sp := by cases r <;> rfl
@[simp] theorem State.setReg_pc (r : Reg8) (v : Byte) :
    (s.setReg r v).pc = s.pc := by cases r <;> rfl
@[simp] theorem State.setReg_mem (r : Reg8) (v : Byte) :
    (s.setReg r v).mem = s.mem := by cases r <;> rfl
@[simp] theorem State.setReg_status (r : Reg8) (v : Byte) :
    (s.setReg r v).status = s.status := by cases r <;> rfl
@[simp] theorem State.setReg_params (r : Reg8) (v : Byte) :
    (s.setReg r v).params = s.params := by cases r <;> rfl
@[simp] theorem State.setReg_b (r : Reg8) (v : Byte) :
    (s.setReg r v).b = if r = .b then v else s.b := by cases r <;> rfl
@[simp] theorem State.setReg_c (r : Reg8) (v : Byte) :
    (s.setReg r v).c = if r = .c then v else s.c := by cases r <;> rfl
@[simp] theorem State.setReg_d (r : Reg8) (v : Byte) :
    (s.setReg r v).d = if r = .d then v else s.d := by cases r <;> rfl
@[simp] theorem State.setReg_e (r : Reg8) (v : Byte) :
    (s.setReg r v).e = if r = .e then v else s.e := by cases r <;> rfl
@[simp] theorem State.setReg_h (r : Reg8) (v : Byte) :
    (s.setReg r v).h = if r = .h then v else s.h := by cases r <;> rfl
@[simp] theorem State.setReg_l (r : Reg8) (v : Byte) :
    (s.setReg r v).l = if r = .l then v else s.l := by cases r <;> rfl
@[simp] theorem State.setReg_a (r : Reg8) (v : Byte) :
    (s.setReg r v).a = if r = .a then v else s.a := by cases r <;> rfl

/-- A register write is read back, and leaves every other operand register alone (R30, R32). -/
@[simp] theorem State.setReg_reg (r r' : Reg8) (v : Byte) :
    (s.setReg r v).reg r' = if r = r' then v else s.reg r' := by
  cases r <;> cases r' <;> rfl

/-! ### reg over the other updates -/

@[simp] theorem State.setBc_reg (v : Word) (r : Reg8) :
    (s.setBc v).reg r = if r = .b then hiByte v else if r = .c then loByte v else s.reg r := by
  cases r <;> rfl
@[simp] theorem State.setDe_reg (v : Word) (r : Reg8) :
    (s.setDe v).reg r = if r = .d then hiByte v else if r = .e then loByte v else s.reg r := by
  cases r <;> rfl
@[simp] theorem State.setHl_reg (v : Word) (r : Reg8) :
    (s.setHl v).reg r = if r = .h then hiByte v else if r = .l then loByte v else s.reg r := by
  cases r <;> rfl
@[simp] theorem State.setAf_reg (v : Word) (r : Reg8) :
    (s.setAf v).reg r = if r = .a then hiByte v else s.reg r := by
  cases r <;> rfl
@[simp] theorem State.setSp_reg (v : Word) (r : Reg8) :
    (s.setSp v).reg r = s.reg r := by cases r <;> rfl
@[simp] theorem State.setPc_reg (v : Word) (r : Reg8) :
    (s.setPc v).reg r = s.reg r := by cases r <;> rfl
@[simp] theorem State.setFlag_reg (k : Flag) (x : Bool) (r : Reg8) :
    (s.setFlag k x).reg r = s.reg r := by cases r <;> rfl
@[simp] theorem State.setZNH_reg (z n h : Bool) (r : Reg8) :
    (s.setZNH z n h).reg r = s.reg r := by cases r <;> rfl
@[simp] theorem State.setNHC_reg (n h c : Bool) (r : Reg8) :
    (s.setNHC n h c).reg r = s.reg r := by cases r <;> rfl
@[simp] theorem State.setZNHC_reg (z n h c : Bool) (r : Reg8) :
    (s.setZNHC z n h c).reg r = s.reg r := by cases r <;> rfl
@[simp] theorem State.raiseUnimplemented_reg (x : Bool) (op : Byte) (w : Word) (r : Reg8) :
    (s.raiseUnimplemented x op w).reg r = s.reg r := by cases r <;> rfl
@[simp] theorem State.disableBootOverlay_reg (r : Reg8) :
    (s.disableBootOverlay).reg r = s.reg r := by cases r <;> rfl

/-- Replacing the memory leaves every register. -/
@[simp] theorem State.withMem_reg (m : Memory) (r : Reg8) : ({ s with mem := m } : State).reg r = s.reg r := by
  cases r <;> rfl

/-- Writing A as a field is writing it as a register. -/
theorem State.withA_eq (v : Byte) : ({ s with a := v } : State) = s.setReg .a v := rfl

end Sys2Proof.Machine
end

