-- ==== Sys2Proof/Laws/Flags.lean ====
section
/-! SUPPORT. The laws of the flag updater: a flag write changes its own bit of F and no other
(spec/10_state.md R37), and what each group of flag writes leaves. -/

namespace Sys2Proof.Machine

/-- A flag written is read back, and every other flag is unchanged (R36, R37). -/
@[simp] theorem getFlag_putFlag (f : Byte) (k j : Flag) (x : Bool) :
    getFlag (putFlag f k x) j = if j = k then x else getFlag f j := by
  cases k <;> cases j <;> cases x <;>
    simp [getFlag, putFlag, flagPos, bit8]

/-- A flag write leaves F[3:0] alone (R37). -/
@[simp] theorem putFlag_reserved (f : Byte) (k : Flag) (x : Bool) : putFlag f k x &&& 0x0F#8 = f &&& 0x0F#8 := by
  revert f
  cases k <;> cases x <;> decide

/-! ## Flags over the updates of the state -/

variable (s : State)

@[simp] theorem State.setFlag_flag (k j : Flag) (x : Bool) :
    (s.setFlag k x).flag j = if j = k then x else s.flag j := getFlag_putFlag _ _ _ _

/-- Z, N and H as written, C as before. -/
@[simp] theorem State.setZNH_flag (z n h : Bool) (j : Flag) :
    (s.setZNH z n h).flag j = match j with | .z => z | .n => n | .h => h | .c => s.flag .c := by
  cases j <;> simp [State.setZNH]

/-- N, H and C as written, Z as before. -/
@[simp] theorem State.setNHC_flag (n h c : Bool) (j : Flag) :
    (s.setNHC n h c).flag j = match j with | .z => s.flag .z | .n => n | .h => h | .c => c := by
  cases j <;> simp [State.setNHC]

/-- All four flags as written. -/
@[simp] theorem State.setZNHC_flag (z n h c : Bool) (j : Flag) :
    (s.setZNHC z n h c).flag j = match j with | .z => z | .n => n | .h => h | .c => c := by
  cases j <;> simp [State.setZNHC]

@[simp] theorem State.setReg_flag (r : Reg8) (v : Byte) (k : Flag) : (s.setReg r v).flag k = s.flag k := by
  simp [State.flag]
@[simp] theorem State.setHl_flag (v : Word) (k : Flag) : (s.setHl v).flag k = s.flag k := rfl
@[simp] theorem State.setSp_flag (v : Word) (k : Flag) : (s.setSp v).flag k = s.flag k := rfl
@[simp] theorem State.setPc_flag (v : Word) (k : Flag) : (s.setPc v).flag k = s.flag k := rfl
@[simp] theorem State.withMem_flag (m : Memory) (k : Flag) : ({ s with mem := m } : State).flag k = s.flag k := rfl

/-- An ALU operation writes A and F only (R9, R182). -/
theorem State.alu8_eq (op : AluOp) (v : Byte) :
    ∃ r f, s.alu8 op v = { s with a := r, f := f } ∧ f &&& 0x0F#8 = s.f &&& 0x0F#8 := by
  cases op <;> exact ⟨_, _, rfl, by simp⟩

end Sys2Proof.Machine
end

