-- ==== Sys2Proof/Laws/Memory.lean ====
section
/-! SUPPORT. The laws of memory: read after write in a sparse buffer and through the router, and
that every memory operation keeps the canonical form. The read laws hold for every list of cells,
canonical or not. -/

namespace Sys2Proof.Machine

/-! ## Sparse buffers -/

theorem cellsGet_erase_same (m : List Host.Cell) (k : Nat) : cellsGet (cellsErase m k) k = 0#8 := by
  induction m with
  | nil => rfl
  | cons p rest ih =>
    obtain ⟨j, v⟩ := p
    by_cases h : j = k <;> simp [cellsErase, cellsGet, h, ih]

theorem cellsGet_erase_other (m : List Host.Cell) {k x : Nat} (hx : x ≠ k) :
    cellsGet (cellsErase m k) x = cellsGet m x := by
  induction m with
  | nil => rfl
  | cons p rest ih =>
    obtain ⟨j, v⟩ := p
    by_cases h : j = k
    · subst h
      simp [cellsErase, cellsGet, ih, Ne.symm hx]
    · simp [cellsErase, cellsGet, h, ih]

theorem cellsGet_insert (m : List Host.Cell) (k x : Nat) (v : Byte) (h0 : cellsGet m k = 0#8)
    (hm : ∀ p ∈ m, p.1 ≠ k) :
    cellsGet (cellsInsert m k v) x = if x = k then v else cellsGet m x := by
  induction m with
  | nil =>
    by_cases h : x = k
    · simp [cellsInsert, cellsGet, h]
    · simp [cellsInsert, cellsGet, h, Ne.symm h]
  | cons p rest ih =>
    obtain ⟨j, w⟩ := p
    have hj : j ≠ k := hm (j, w) (by simp)
    have h0' : cellsGet rest k = 0#8 := by simpa [cellsGet, hj] using h0
    have hrest : ∀ p ∈ rest, p.1 ≠ k := fun p hp => hm p (by simp [hp])
    by_cases hlt : k < j
    · by_cases hx : x = k
      · simp [cellsInsert, cellsGet, hlt, hx]
      · simp [cellsInsert, cellsGet, hlt, hx, Ne.symm hx]
    · by_cases hx : x = k
      · subst hx
        simp [cellsInsert, cellsGet, hlt, hj, ih h0' hrest]
      · by_cases hjx : j = x
        · subst hjx; simp [cellsInsert, cellsGet, hlt, hx]
        · simp [cellsInsert, cellsGet, hlt, hjx, hx, ih h0' hrest]

theorem cellsErase_key (m : List Host.Cell) (k : Nat) : ∀ p ∈ cellsErase m k, p.1 ≠ k := by
  induction m with
  | nil => simp [cellsErase]
  | cons q rest ih =>
    obtain ⟨j, v⟩ := q
    by_cases h : j = k
    · simpa [cellsErase, h] using ih
    · intro p hp
      simp only [cellsErase, h, if_false, List.mem_cons] at hp
      rcases hp with rfl | hp
      · exact h
      · exact ih p hp

/-- A buffer read after a write: the byte written at its index, the old byte at every other. -/
theorem cellsGet_set (m : List Host.Cell) (k x : Nat) (v : Byte) :
    cellsGet (cellsSet m k v) x = if x = k then v else cellsGet m x := by
  unfold cellsSet
  by_cases hv : v = 0#8
  · by_cases hx : x = k
    · subst hx; simp [hv, cellsGet_erase_same]
    · simp [hv, hx, cellsGet_erase_other m hx]
  · rw [if_neg hv, cellsGet_insert _ _ _ _ (cellsGet_erase_same m k) (cellsErase_key m k)]
    by_cases hx : x = k
    · simp [hx]
    · simp [hx, cellsGet_erase_other m hx]

/-! ## Canonical form -/

theorem cellsWf_mono {lo lo' size : Nat} {m : List Host.Cell} (h : cellsWf lo' size m = true) (hle : lo ≤ lo') :
    cellsWf lo size m = true := by
  cases m with
  | nil => rfl
  | cons p rest =>
    obtain ⟨k, v⟩ := p
    simp only [cellsWf, Bool.and_eq_true, decide_eq_true_eq] at h ⊢
    exact ⟨⟨⟨by omega, h.1.1.2⟩, h.1.2⟩, h.2⟩

/-- A canonical form stays one when the buffer grows. -/
theorem cellsWf_grow {lo size size' : Nat} {m : List Host.Cell} (h : cellsWf lo size m = true) (hle : size ≤ size') :
    cellsWf lo size' m = true := by
  induction m generalizing lo with
  | nil => rfl
  | cons p rest ih =>
    obtain ⟨k, v⟩ := p
    simp only [cellsWf, Bool.and_eq_true, decide_eq_true_eq] at h ⊢
    exact ⟨⟨⟨h.1.1.1, by omega⟩, h.1.2⟩, ih h.2⟩

theorem cellsWf_erase {lo size : Nat} {m : List Host.Cell} (k : Nat) (h : cellsWf lo size m = true) :
    cellsWf lo size (cellsErase m k) = true := by
  induction m generalizing lo with
  | nil => rfl
  | cons p rest ih =>
    obtain ⟨j, v⟩ := p
    simp only [cellsWf, Bool.and_eq_true, decide_eq_true_eq] at h
    by_cases hj : j = k
    · simp only [cellsErase, hj, if_true]
      exact cellsWf_mono (ih h.2) (by omega)
    · simp only [cellsErase, hj, if_false, cellsWf, Bool.and_eq_true, decide_eq_true_eq]
      exact ⟨h.1, ih h.2⟩

theorem cellsWf_insert {lo size : Nat} {m : List Host.Cell} {k : Nat} {v : Byte} (h : cellsWf lo size m = true)
    (hk : ∀ p ∈ m, p.1 ≠ k) (hlo : lo ≤ k) (hsize : k < size) (hv : v ≠ 0#8) :
    cellsWf lo size (cellsInsert m k v) = true := by
  induction m generalizing lo with
  | nil => simp [cellsInsert, cellsWf, hlo, hsize, hv]
  | cons p rest ih =>
    obtain ⟨j, w⟩ := p
    simp only [cellsWf, Bool.and_eq_true, decide_eq_true_eq] at h
    have hj : j ≠ k := hk (j, w) (by simp)
    by_cases hlt : k < j
    · simp only [cellsInsert, hlt, if_true, cellsWf, Bool.and_eq_true, decide_eq_true_eq]
      exact ⟨⟨⟨hlo, hsize⟩, hv⟩, ⟨⟨by omega, h.1.1.2⟩, h.1.2⟩, h.2⟩
    · simp only [cellsInsert, hlt, if_false, cellsWf, Bool.and_eq_true, decide_eq_true_eq]
      exact ⟨h.1, ih h.2 (fun p hp => hk p (by simp [hp])) (by omega)⟩

/-- Writing a byte within the buffer keeps the canonical form. -/
theorem cellsWf_set {size : Nat} {m : List Host.Cell} {k : Nat} (v : Byte) (h : cellsWf 0 size m = true)
    (hk : k < size) : cellsWf 0 size (cellsSet m k v) = true := by
  unfold cellsSet
  split
  · exact cellsWf_erase k h
  · exact cellsWf_insert (cellsWf_erase k h) (cellsErase_key m k) (Nat.zero_le k) hk ‹_›

/-- The cells of a byte sequence are canonical. -/
theorem cellsWf_cellsFrom (k : Nat) (bs : List Byte) : cellsWf k (k + bs.length) (cellsFrom k bs) = true := by
  induction bs generalizing k with
  | nil => rfl
  | cons v vs ih =>
    have h := ih (k + 1)
    have hlen : k + 1 + vs.length = k + (v :: vs).length := by simp; omega
    rw [hlen] at h
    unfold cellsFrom
    split
    · exact cellsWf_mono h (by omega)
    · simp only [cellsWf, Bool.and_eq_true, decide_eq_true_eq]
      exact ⟨⟨⟨by omega, by simp⟩, ‹_›⟩, h⟩

/-- The cells of a byte sequence read as the sequence, and 0x00 past its end. -/
theorem cellsGet_cellsFrom (k x : Nat) (bs : List Byte) :
    cellsGet (cellsFrom k bs) (k + x) = bs[x]?.getD 0#8 := by
  have hlow : ∀ (j y : Nat) (l : List Byte), y < j → cellsGet (cellsFrom j l) y = 0#8 := by
    intro j y l
    induction l generalizing j with
    | nil => intro _; rfl
    | cons v vs ih =>
      intro hy
      unfold cellsFrom
      split
      · exact ih (j + 1) (by omega)
      · rw [cellsGet, if_neg (by omega), ih (j + 1) (by omega)]
  induction bs generalizing k x with
  | nil => simp [cellsFrom, cellsGet]
  | cons v vs ih =>
    cases x with
    | zero =>
      unfold cellsFrom
      split
      · rw [hlow _ _ _ (by omega)]; simp_all
      · simp [cellsGet]
    | succ x =>
      have h := ih (k + 1) x
      rw [show k + 1 + x = k + (x + 1) by omega] at h
      unfold cellsFrom
      split
      · simpa using h
      · rw [cellsGet, if_neg (by omega), h]; simp

/-! ## The router -/

/-- Whether a place lies within its buffer. -/
def Place.within (m : Memory) : Place → Prop
  | .cart k => k < m.cartLen
  | .vram k => k < Config.vramSize
  | .io k => k < Config.ioSize
  | .hram k => k < Config.hramSize

/-- The router answers only places within their buffers. -/
theorem Memory.route_within {m : Memory} {a : Word} {p : Place} (h : m.route a = some p) : p.within m := by
  have ha := a.isLt
  unfold Memory.route at h
  simp only [] at h
  repeat' split at h
  all_goals first
    | (cases h; simp only [Place.within, Config.vramSize, Config.ioSize, Config.hramSize]; omega)
    | cases h

/-- The bus address of a place. -/
def Place.address : Place → Nat
  | .cart k => k
  | .vram k => 0x8000 + k
  | .io k => 0xFF00 + k
  | .hram k => 0xFF80 + k

/-- The router sends an address to the place that lies at it. -/
theorem Memory.route_address {m : Memory} {a : Word} {p : Place} (h : m.route a = some p) :
    p.address = a.toNat := by
  unfold Memory.route at h
  simp only [] at h
  repeat' split at h
  all_goals first
    | (cases h; simp only [Place.address] <;> omega)
    | cases h

/-- Two addresses routed to one place are one address. -/
theorem Memory.route_inj {m : Memory} {a b : Word} {p : Place} (ha : m.route a = some p) (hb : m.route b = some p) :
    a = b :=
  BitVec.eq_of_toNat_eq ((Memory.route_address ha).symm.trans (Memory.route_address hb))

/-- A write through the router changes no routing. -/
@[simp] theorem Memory.set_route (m : Memory) (p : Place) (v : Byte) (a : Word) : (m.set p v).route a = m.route a := by
  cases p <;> rfl

@[simp] theorem Memory.set_overlay (m : Memory) (p : Place) (v : Byte) :
    (m.set p v).bootOverlayActive = m.bootOverlayActive := by cases p <;> rfl
@[simp] theorem Memory.set_boot (m : Memory) (p : Place) (v : Byte) : (m.set p v).boot = m.boot := by cases p <;> rfl
@[simp] theorem Memory.set_cartLen (m : Memory) (p : Place) (v : Byte) : (m.set p v).cartLen = m.cartLen := by
  cases p <;> rfl

/-- A byte of a buffer after a write. -/
theorem Memory.get_set (m : Memory) (p q : Place) (v : Byte) :
    (m.set p v).get q = if q = p then v else m.get q := by
  cases p <;> cases q <;> simp [Memory.set, Memory.get, cellsGet_set]

/-- What a completed write leaves: the byte under the address written, every other address reads as
before, and neither latch, boot image nor cartridge length changes (R62, R69). -/
theorem Memory.writeByte_spec {m m' : Memory} {a : Word} {v : Byte} (h : m.writeByte a v = some m') :
    m'.under a = some v
    ∧ (∀ x, x ≠ a → m'.under x = m.under x ∧ m'.readByte x = m.readByte x)
    ∧ (m.bootOverlayActive = true → a.toNat ≤ 0xFF → m'.readByte a = m.readByte a)
    ∧ m'.bootOverlayActive = m.bootOverlayActive ∧ m'.boot = m.boot ∧ m'.cartLen = m.cartLen := by
  unfold Memory.writeByte at h
  cases hr : m.route a with
  | none => simp [hr] at h
  | some p =>
    simp only [hr, Option.map_some, Option.some.injEq] at h
    subst h
    have hu : ∀ x, x ≠ a → (m.set p v).under x = m.under x := by
      intro x hx
      unfold Memory.under
      rw [Memory.set_route]
      cases hx' : m.route x with
      | none => rfl
      | some q =>
        have hq : q ≠ p := fun e => hx (Memory.route_inj (e ▸ hx') hr)
        simp [Memory.get_set, hq]
    refine ⟨?_, fun x hx => ⟨hu x hx, ?_⟩, fun ho ha => ?_, by simp, by simp, by simp⟩
    · simp [Memory.under, hr, Memory.get_set]
    · simp only [Memory.readByte, Memory.set_overlay, Memory.set_boot, hu x hx]
    · simp [Memory.readByte, ho, ha]

/-- Every mapped address can be written. -/
theorem Memory.writeByte_of_under {m : Memory} {a : Word} {w : Byte} (v : Byte) (h : m.under a = some w) :
    ∃ m', m.writeByte a v = some m' := by
  unfold Memory.under at h
  unfold Memory.writeByte
  cases hr : m.route a with
  | none => simp [hr] at h
  | some p => exact ⟨_, rfl⟩

/-- An address with no byte under it cannot be written. -/
theorem Memory.writeByte_none {m : Memory} {a : Word} (v : Byte) : m.writeByte a v = none ↔ m.under a = none := by
  unfold Memory.writeByte Memory.under
  cases m.route a <;> simp

/-- A write through the router keeps the canonical form. -/
theorem Memory.writeByte_wf {m m' : Memory} {a : Word} {v : Byte} (h : m.writeByte a v = some m') (hw : m.wf = true) :
    m'.wf = true := by
  unfold Memory.writeByte at h
  cases hr : m.route a with
  | none => simp [hr] at h
  | some p =>
    simp only [hr, Option.map_some, Option.some.injEq] at h
    subst h
    have hp := Memory.route_within hr
    simp only [Memory.wf, Bool.and_eq_true] at hw ⊢
    obtain ⟨⟨⟨h1, h2⟩, h3⟩, h4⟩ := hw
    cases p with
    | cart k => exact ⟨⟨⟨cellsWf_set v h1 hp, h2⟩, h3⟩, h4⟩
    | vram k => exact ⟨⟨⟨h1, cellsWf_set v h2 hp⟩, h3⟩, h4⟩
    | io k => exact ⟨⟨⟨h1, h2⟩, cellsWf_set v h3 hp⟩, h4⟩
    | hram k => exact ⟨⟨⟨h1, h2⟩, h3⟩, cellsWf_set v h4 hp⟩

/-- The memory after construction is canonical. -/
theorem Memory.construct_wf (p : Params) (r : RegInit) (boot rom : List Byte) :
    (State.construct p r boot rom).mem.wf = true := by
  have h := cellsWf_cellsFrom 0 rom
  simp only [Nat.zero_add] at h
  simp [State.construct, Memory.wf, cellsWf, h]

/-- The memory at reset is canonical. -/
theorem State.reset_mem_wf : State.reset.mem.wf = true := Memory.construct_wf _ _ _ _

end Sys2Proof.Machine
end

