-- ==== Sys2Proof/Laws/Ops.lean ====
section
/-! SUPPORT. For each shared operation over memory, everything it can do: it hands on the value and
the state, or it stops at the unmapped address. Then what each leaves unchanged. -/

namespace Sys2Proof.Machine

/-! ## Loads -/

theorem State.load_some {s : State} {a : Word} {v : Byte} (k : Byte → Result) (h : s.mem.readByte a = some v) :
    s.load a k = k v := by simp [State.load, h]

theorem State.load_none {s : State} {a : Word} (k : Byte → Result) (h : s.mem.readByte a = none) :
    s.load a k = .fault (.unmappedAddress a) := by simp [State.load, h]

/-- Everything a load can do. -/
theorem State.load_cases (s : State) (a : Word) (k : Byte → Result) :
    (∃ v, s.mem.readByte a = some v ∧ s.load a k = k v)
    ∨ (s.mem.readByte a = none ∧ s.load a k = .fault (.unmappedAddress a)) := by
  cases h : s.mem.readByte a with
  | none => exact .inr ⟨rfl, s.load_none k h⟩
  | some v => exact .inl ⟨v, rfl, s.load_some k h⟩

/-! ## Stores -/

/-- The memory `m'` differs from `m` in the byte at `a` alone, which is now `v` under the overlay. -/
structure MemStored (m m' : Memory) (a : Word) (v : Byte) : Prop where
  written : m'.under a = some v
  under : ∀ x, x ≠ a → m'.under x = m.under x
  read : ∀ x, x ≠ a → m'.readByte x = m.readByte x
  hidden : m.bootOverlayActive = true → a.toNat ≤ 0xFF → m'.readByte a = m.readByte a
  overlay : m'.bootOverlayActive = m.bootOverlayActive
  boot : m'.boot = m.boot
  cartLen : m'.cartLen = m.cartLen
  wf : m.wf = true → m'.wf = true

theorem Memory.writeByte_stored {m m' : Memory} {a : Word} {v : Byte} (h : m.writeByte a v = some m') :
    MemStored m m' a v := by
  obtain ⟨h1, h2, h3, h4, h5, h6⟩ := Memory.writeByte_spec h
  exact ⟨h1, fun x hx => (h2 x hx).1, fun x hx => (h2 x hx).2, h3, h4, h5, h6, Memory.writeByte_wf h⟩

/-- A mapped address stays mapped, an unmapped one unmapped. -/
theorem MemStored.under_none {m m' : Memory} {a : Word} {v : Byte} (h : MemStored m m' a v)
    (ha : m.under a ≠ none) (x : Word) : m'.under x = none ↔ m.under x = none := by
  by_cases hx : x = a
  · subst hx; simp [h.written, ha]
  · rw [h.under x hx]

/-- A stored byte is read back where the overlay does not answer. -/
theorem MemStored.read_same {m m' : Memory} {a : Word} {v : Byte} (h : MemStored m m' a v)
    (ha : ¬(m.bootOverlayActive = true ∧ a.toNat ≤ 0xFF)) : m'.readByte a = some v := by
  rw [Memory.readByte, if_neg, h.written]
  rw [h.overlay]; simpa using ha

theorem State.store_none {s : State} {a : Word} (v : Byte) (k : State → Result) (h : s.mem.under a = none) :
    s.store a v k = .fault (.unmappedAddress a) := by
  simp [State.store, (Memory.writeByte_none v).2 h]

theorem State.store_some {s : State} {a : Word} (v : Byte) (h : s.mem.under a ≠ none) :
    ∃ m, MemStored s.mem m a v ∧ ∀ k, s.store a v k = k { s with mem := m } := by
  obtain ⟨w, hw⟩ := Option.ne_none_iff_exists'.1 h
  obtain ⟨m, hm⟩ := Memory.writeByte_of_under v hw
  exact ⟨m, Memory.writeByte_stored hm, fun k => by simp [State.store, hm]⟩

/-- Everything a store can do. -/
theorem State.store_cases (s : State) (a : Word) (v : Byte) (k : State → Result) :
    (∃ m, s.mem.under a ≠ none ∧ MemStored s.mem m a v ∧ s.store a v k = k { s with mem := m })
    ∨ (s.mem.under a = none ∧ s.store a v k = .fault (.unmappedAddress a)) := by
  by_cases h : s.mem.under a = none
  · exact .inr ⟨h, s.store_none v k h⟩
  · obtain ⟨m, hm, hk⟩ := s.store_some v h
    exact .inl ⟨m, h, hm, hk k⟩

/-! ## Words -/

theorem word_hiByte_loByte (v : Word) : word (hiByte v) (loByte v) = v := by
  unfold word hiByte loByte
  ext i hi
  simp only [BitVec.getElem_append, BitVec.getElem_extractLsb']
  by_cases h : i < 8
  · simp [h, BitVec.getLsbD_eq_getElem hi]
  · simp only [h, dif_neg, not_false_eq_true]
    rw [show 8 + (i - 8) = i by omega]; exact BitVec.getLsbD_eq_getElem hi

@[simp] theorem hiByte_word (h l : Byte) : hiByte (word h l) = h := by
  unfold word hiByte
  ext i hi
  simp only [BitVec.getElem_extractLsb', BitVec.getLsbD_append]
  simp [BitVec.getLsbD_eq_getElem hi]

@[simp] theorem loByte_word (h l : Byte) : loByte (word h l) = l := by
  unfold word loByte
  ext i hi
  simp only [BitVec.getElem_extractLsb', BitVec.getLsbD_append]
  simp [hi]

/-- The memory `m'` differs from `m` in the two bytes at `a` and `b` alone. -/
structure MemStored2 (m m' : Memory) (a b : Word) (va vb : Byte) : Prop where
  writtenA : m'.under a = some va
  writtenB : m'.under b = some vb
  under : ∀ x, x ≠ a → x ≠ b → m'.under x = m.under x
  read : ∀ x, x ≠ a → x ≠ b → m'.readByte x = m.readByte x
  overlay : m'.bootOverlayActive = m.bootOverlayActive
  boot : m'.boot = m.boot
  cartLen : m'.cartLen = m.cartLen
  wf : m.wf = true → m'.wf = true

theorem MemStored.trans {m m1 m2 : Memory} {a b : Word} {va vb : Byte} (h1 : MemStored m m1 a va)
    (h2 : MemStored m1 m2 b vb) (hab : a ≠ b) : MemStored2 m m2 a b va vb where
  writtenA := by rw [h2.under a hab, h1.written]
  writtenB := h2.written
  under x ha hb := by rw [h2.under x hb, h1.under x ha]
  read x ha hb := by rw [h2.read x hb, h1.read x ha]
  overlay := h2.overlay.trans h1.overlay
  boot := h2.boot.trans h1.boot
  cartLen := h2.cartLen.trans h1.cartLen
  wf h := h2.wf (h1.wf h)

theorem MemStored2.read_a {m m' : Memory} {a b : Word} {va vb : Byte} (h : MemStored2 m m' a b va vb)
    (ha : ¬(m.bootOverlayActive = true ∧ a.toNat ≤ 0xFF)) : m'.readByte a = some va := by
  rw [Memory.readByte, if_neg, h.writtenA]
  rw [h.overlay]; simpa using ha

theorem MemStored2.read_b {m m' : Memory} {a b : Word} {va vb : Byte} (h : MemStored2 m m' a b va vb)
    (hb : ¬(m.bootOverlayActive = true ∧ b.toNat ≤ 0xFF)) : m'.readByte b = some vb := by
  rw [Memory.readByte, if_neg, h.writtenB]
  rw [h.overlay]; simpa using hb

/-- Two stores, one after the other, at different addresses. -/
theorem State.store_store (s : State) {a b : Word} (va vb : Byte) (hab : a ≠ b) :
    (s.mem.under a ≠ none → s.mem.under b ≠ none →
      ∃ m, MemStored2 s.mem m a b va vb
        ∧ ∀ k, (s.store a va fun t => t.store b vb k) = k { s with mem := m })
    ∧ (s.mem.under a = none → ∀ k, (s.store a va fun t => t.store b vb k) = .fault (.unmappedAddress a))
    ∧ (s.mem.under a ≠ none → s.mem.under b = none →
      ∀ k, (s.store a va fun t => t.store b vb k) = .fault (.unmappedAddress b)) := by
  refine ⟨fun ha hb => ?_, fun ha k => s.store_none va _ ha, fun ha hb k => ?_⟩
  · obtain ⟨m, hm, hk⟩ := s.store_some va ha
    have hb' : ({ s with mem := m } : State).mem.under b ≠ none := by
      simpa [hm.under b (Ne.symm hab)] using hb
    obtain ⟨m2, hm2, hk2⟩ := State.store_some vb hb'
    exact ⟨m2, hm.trans hm2 hab, fun k => by rw [hk, hk2]⟩
  · obtain ⟨m, hm, hk⟩ := s.store_some va ha
    rw [hk]
    exact State.store_none vb k (by simpa [hm.under b (Ne.symm hab)] using hb)

theorem word_add_one_ne (a : Word) : a ≠ a + 1#16 := by bv_omega
theorem word_sub_one_ne_sub_two (a : Word) : a - 1#16 ≠ a - 2#16 := by bv_omega
theorem word_sub_one_sub_one (a : Word) : a - 1#16 - 1#16 = a - 2#16 := by bv_omega
theorem word_add_one_add_one (a : Word) : a + 1#16 + 1#16 = a + 2#16 := by bv_omega

/-- Everything a word store can do (R71, R72). -/
theorem State.storeWord_spec (s : State) (a v : Word) :
    (s.mem.under a ≠ none → s.mem.under (a + 1#16) ≠ none →
      ∃ m, MemStored2 s.mem m a (a + 1#16) (loByte v) (hiByte v)
        ∧ ∀ k, s.storeWord a v k = k { s with mem := m })
    ∧ (s.mem.under a = none → ∀ k, s.storeWord a v k = .fault (.unmappedAddress a))
    ∧ (s.mem.under a ≠ none → s.mem.under (a + 1#16) = none →
      ∀ k, s.storeWord a v k = .fault (.unmappedAddress (a + 1#16))) :=
  s.store_store (loByte v) (hiByte v) (word_add_one_ne a)

/-- A push is a store at the decremented SP (R81). -/
theorem State.push8_eq (s : State) (v : Byte) (k : State → Result) :
    s.push8 v k = s.store (s.sp - 1#16) v fun t => k (t.setSp (s.sp - 1#16)) := by
  unfold State.push8 State.store
  simp only [State.setSp_mem]
  cases s.mem.writeByte (s.sp - 1#16) v <;> rfl

/-- Everything a 16-bit push can do (R83). -/
theorem State.push16_spec (s : State) (v : Word) :
    (s.mem.under (s.sp - 1#16) ≠ none → s.mem.under (s.sp - 2#16) ≠ none →
      ∃ m, MemStored2 s.mem m (s.sp - 1#16) (s.sp - 2#16) (hiByte v) (loByte v)
        ∧ ∀ k, s.push16 v k = k { s with mem := m, sp := s.sp - 2#16 })
    ∧ (s.mem.under (s.sp - 1#16) = none → ∀ k, s.push16 v k = .fault (.unmappedAddress (s.sp - 1#16)))
    ∧ (s.mem.under (s.sp - 1#16) ≠ none → s.mem.under (s.sp - 2#16) = none →
      ∀ k, s.push16 v k = .fault (.unmappedAddress (s.sp - 2#16))) := by
  have key : ∀ k, s.push16 v k = s.store (s.sp - 1#16) (hiByte v) fun t =>
      t.store (s.sp - 2#16) (loByte v) fun u => k (u.setSp (s.sp - 2#16)) := by
    intro k
    unfold State.push16
    rw [State.push8_eq]
    congr 1
    funext t
    rw [State.push8_eq]
    simp only [State.setSp_sp, word_sub_one_sub_one, State.store, State.setSp_mem]
    cases t.mem.writeByte (s.sp - 2#16) (loByte v) <;> rfl
  obtain ⟨h1, h2, h3⟩ := s.store_store (hiByte v) (loByte v) (word_sub_one_ne_sub_two s.sp)
  refine ⟨fun ha hb => ?_, fun ha k => ?_, fun ha hb k => ?_⟩
  · obtain ⟨m, hm, hk⟩ := h1 ha hb
    exact ⟨m, hm, fun k => by rw [key, hk]; rfl⟩
  · rw [key, h2 ha]
  · rw [key, h3 ha hb]

/-- Everything a 16-bit pop can do (R84). -/
theorem State.pop16_spec (s : State) (k : Word → State → Result) :
    (∀ lo hi, s.mem.readByte s.sp = some lo → s.mem.readByte (s.sp + 1#16) = some hi →
      s.pop16 k = k (word hi lo) (s.setSp (s.sp + 2#16)))
    ∧ (s.mem.readByte s.sp = none → s.pop16 k = .fault (.unmappedAddress s.sp))
    ∧ (∀ lo, s.mem.readByte s.sp = some lo → s.mem.readByte (s.sp + 1#16) = none →
      s.pop16 k = .fault (.unmappedAddress (s.sp + 1#16))) := by
  unfold State.pop16 State.pop8
  refine ⟨fun lo hi h1 h2 => ?_, fun h => ?_, fun lo h1 h2 => ?_⟩
  · rw [State.load_some _ h1]
    dsimp only
    rw [State.load_some (v := hi) _ (by simpa using h2)]
    simp only [State.setSp_sp, word_add_one_add_one]
    rfl
  · rw [State.load_none _ h]
  · rw [State.load_some _ h1]
    dsimp only
    rw [State.load_none _ (by simpa using h2), State.setSp_sp]

/-- Everything a word load can do (R70). -/
theorem State.loadWord_spec (s : State) (a : Word) (k : Word → Result) :
    (∀ lo hi, s.mem.readByte a = some lo → s.mem.readByte (a + 1#16) = some hi →
      s.loadWord a k = k (word hi lo))
    ∧ (s.mem.readByte a = none → s.loadWord a k = .fault (.unmappedAddress a))
    ∧ (∀ lo, s.mem.readByte a = some lo → s.mem.readByte (a + 1#16) = none →
      s.loadWord a k = .fault (.unmappedAddress (a + 1#16))) := by
  unfold State.loadWord
  refine ⟨fun lo hi h1 h2 => ?_, fun h => ?_, fun lo h1 h2 => ?_⟩
  · rw [State.load_some _ h1, State.load_some _ h2]
  · rw [State.load_none _ h]
  · rw [State.load_some _ h1, State.load_none _ h2]

/-! ## Operands -/

/-- Everything a read of an 8-bit operand can do (R23). -/
theorem State.read8_spec (s : State) (o : Opnd8) (k : Byte → Result) :
    (∀ v, operandValue s o = some v → s.read8 o k = k v)
    ∧ (operandValue s o = none → s.read8 o k = .fault (.unmappedAddress s.hl)) := by
  cases o with
  | reg r => exact ⟨fun v h => by cases h; rfl, fun h => by cases h⟩
  | atHl => exact ⟨fun v h => State.load_some k h, fun h => State.load_none k h⟩

/-- Everything a read of an ALU operand can do (R182). -/
theorem State.readAlu_spec (s : State) (src : AluSrc) (k : Byte → Result) :
    (∀ v, aluValue s src = some v → s.readAlu src k = k v)
    ∧ (aluValue s src = none → s.readAlu src k = .fault (.unmappedAddress s.hl)) := by
  cases src with
  | opnd o => exact s.read8_spec o k
  | imm n => exact ⟨fun v h => by cases h; rfl, fun h => by cases h⟩

end Sys2Proof.Machine
end

