-- ==== Sys2Proof/Laws/Frame.lean ====
section
/-! SUPPORT. How a frame is shown: from an unchanged memory, from one stored byte, from two; and the
frames of a write to an 8-bit operand. -/

namespace Sys2Proof.Machine

/-- An update that leaves memory alone. -/
theorem Frame.ofMem {s t : State} {rs : List Reg8} {ks : List Flag} {as : List Word}
    (regs : ∀ r, r ∉ rs → t.reg r = s.reg r) (flags : ∀ k, k ∉ ks → t.flag k = s.flag k)
    (reserved : t.f &&& 0x0F#8 = s.f &&& 0x0F#8) (mem : t.mem = s.mem)
    (status : t.status = s.status) (params : t.params = s.params) : Frame s t rs ks as where
  regs := regs
  flags := flags
  reserved := reserved
  bytes a _ := by rw [mem]
  under a _ := by rw [mem]
  overlay := by rw [mem]
  boot := by rw [mem]
  cartLen := by rw [mem]
  status := status
  params := params

/-- An update that stores one byte. -/
theorem Frame.ofStored {s t : State} {rs : List Reg8} {ks : List Flag} {a : Word} {v : Byte}
    (regs : ∀ r, r ∉ rs → t.reg r = s.reg r) (flags : ∀ k, k ∉ ks → t.flag k = s.flag k)
    (reserved : t.f &&& 0x0F#8 = s.f &&& 0x0F#8) (mem : MemStored s.mem t.mem a v)
    (status : t.status = s.status) (params : t.params = s.params) : Frame s t rs ks [a] where
  regs := regs
  flags := flags
  reserved := reserved
  bytes x hx := mem.read x (by simpa using hx)
  under x hx := mem.under x (by simpa using hx)
  overlay := mem.overlay
  boot := mem.boot
  cartLen := mem.cartLen
  status := status
  params := params

/-- An update that stores two bytes. -/
theorem Frame.ofStored2 {s t : State} {rs : List Reg8} {ks : List Flag} {a b : Word} {va vb : Byte}
    (regs : ∀ r, r ∉ rs → t.reg r = s.reg r) (flags : ∀ k, k ∉ ks → t.flag k = s.flag k)
    (reserved : t.f &&& 0x0F#8 = s.f &&& 0x0F#8) (mem : MemStored2 s.mem t.mem a b va vb)
    (status : t.status = s.status) (params : t.params = s.params) : Frame s t rs ks [a, b] where
  regs := regs
  flags := flags
  reserved := reserved
  bytes x hx := mem.read x (by simp_all) (by simp_all)
  under x hx := mem.under x (by simp_all) (by simp_all)
  overlay := mem.overlay
  boot := mem.boot
  cartLen := mem.cartLen
  status := status
  params := params

/-- Frames compose where both leave the same things alone. -/
theorem Frame.trans {s t u : State} {rs : List Reg8} {ks : List Flag} {as : List Word}
    (h : Frame s t rs ks as) (h' : Frame t u rs ks as) : Frame s u rs ks as where
  regs r hr := (h'.regs r hr).trans (h.regs r hr)
  flags k hk := (h'.flags k hk).trans (h.flags k hk)
  reserved := h'.reserved.trans h.reserved
  bytes a ha := (h'.bytes a ha).trans (h.bytes a ha)
  under a ha := (h'.under a ha).trans (h.under a ha)
  overlay := h'.overlay.trans h.overlay
  boot := h'.boot.trans h.boot
  cartLen := h'.cartLen.trans h.cartLen
  status := h'.status.trans h.status
  params := h'.params.trans h.params

/-- Everything a write to an 8-bit operand can do (R23): the operand holds the byte, SP, pc and F are
as they were and nothing else changes; or (HL) is unmapped and it stops there. -/
theorem State.write8_spec (s : State) (o : Opnd8) (v : Byte) :
    (operandWritable s o → ∃ t, (∀ k, s.write8 o v k = k t) ∧ operandHolds s t o v
      ∧ t.sp = s.sp ∧ t.pc = s.pc ∧ t.f = s.f ∧ (s.mem.wf = true → t.mem.wf = true)
      ∧ Frame s t (operandRegs o) [] (operandBytes s o))
    ∧ (¬operandWritable s o → ∀ k, s.write8 o v k = .fault (.unmappedAddress s.hl)) := by
  cases o with
  | reg r =>
    refine ⟨fun _ => ⟨s.setReg r v, fun k => rfl, by simp [operandHolds], by simp, by simp, by simp, by simp,
      Frame.ofMem ?_ (by simp) (by simp) (by simp) (by simp) (by simp)⟩, fun h => absurd trivial h⟩
    intro r' h
    have h' : r ≠ r' := fun e => h (by simp [operandRegs, e])
    simp [h']
  | atHl =>
    refine ⟨fun h => ?_, fun h k => s.store_none v k (by simpa [operandWritable] using h)⟩
    obtain ⟨m, hm, hk⟩ := s.store_some v (Option.isSome_iff_ne_none.1 h)
    exact ⟨{ s with mem := m }, hk, hm.written, rfl, rfl, rfl, hm.wf,
      Frame.ofStored (by simp) (by simp) rfl hm rfl rfl⟩

end Sys2Proof.Machine
end

