-- ==== Sys2Proof/Laws/Effects.lean ====
section
/-! SUPPORT. What every instruction's meaning has in common, once per shared meaning: it ends in a
next state that keeps the configuration and the invariant's parts, or it stops at an unmapped
address. No proof over all instructions needs to take an operation apart again. -/

namespace Sys2Proof.Machine

/-- What a next state keeps: the latch, the boot image, the cartridge's length, the parameters, the
canonical form of memory and a clear F[3:0]. -/
structure Keeps (s t : State) : Prop where
  overlay : t.mem.bootOverlayActive = s.mem.bootOverlayActive
  boot : t.mem.boot = s.mem.boot
  cartLen : t.mem.cartLen = s.mem.cartLen
  params : t.params = s.params
  wf : s.mem.wf = true → t.mem.wf = true
  low : s.f &&& 0x0F#8 = 0#8 → t.f &&& 0x0F#8 = 0#8

theorem Keeps.refl (s : State) : Keeps s s := ⟨rfl, rfl, rfl, rfl, id, id⟩

theorem Keeps.trans {s t u : State} (h : Keeps s t) (h' : Keeps t u) : Keeps s u :=
  ⟨h'.overlay.trans h.overlay, h'.boot.trans h.boot, h'.cartLen.trans h.cartLen, h'.params.trans h.params,
    fun w => h'.wf (h.wf w), fun w => h'.low (h.low w)⟩

/-- An update of registers alone keeps them all, if it keeps or clears F[3:0]. -/
theorem Keeps.ofMem {s t : State} (m : t.mem = s.mem) (p : t.params = s.params)
    (l : s.f &&& 0x0F#8 = 0#8 → t.f &&& 0x0F#8 = 0#8) : Keeps s t :=
  ⟨by rw [m], by rw [m], by rw [m], p, by rw [m]; exact id, l⟩

/-- A store keeps them all. -/
theorem Keeps.ofStored {s : State} {m : Memory} {a : Word} {v : Byte} (h : MemStored s.mem m a v) :
    Keeps s { s with mem := m } :=
  ⟨h.overlay, h.boot, h.cartLen, rfl, h.wf, id⟩

/-- The two ends of an instruction run at `s`: a next state that keeps what every instruction keeps
and the run status, or a stop at an address that no read or no write maps. -/
def Tame (s : State) (r : Result) : Prop :=
  (∃ t, r = .next t ∧ Keeps s t ∧ t.status = s.status)
  ∨ (∃ a, r = .fault (.unmappedAddress a) ∧ (s.mem.readByte a = none ∨ s.mem.under a = none))

theorem tame_next {s t : State} (h : Keeps s t) (hs : t.status = s.status) : Tame s (.next t) :=
  .inl ⟨t, rfl, h, hs⟩

theorem tame_load {s : State} {a : Word} {k : Byte → Result} (hk : ∀ v, Tame s (k v)) : Tame s (s.load a k) := by
  rcases s.load_cases a k with ⟨v, _, h⟩ | ⟨hn, h⟩
  · rw [h]; exact hk v
  · exact .inr ⟨a, h, .inl hn⟩

theorem tame_store {s : State} {a : Word} {v : Byte} {k : State → Result}
    (hk : ∀ m, MemStored s.mem m a v → Tame s (k { s with mem := m })) : Tame s (s.store a v k) := by
  rcases s.store_cases a v k with ⟨m, _, hm, h⟩ | ⟨hn, h⟩
  · rw [h]; exact hk m hm
  · exact .inr ⟨a, h, .inr hn⟩

theorem tame_storeWord {s : State} {a v : Word} : Tame s (s.storeWord a v .next) := by
  obtain ⟨h1, h2, h3⟩ := s.storeWord_spec a v
  by_cases ha : s.mem.under a = none
  · exact .inr ⟨a, h2 ha _, .inr ha⟩
  · by_cases hb : s.mem.under (a + 1#16) = none
    · exact .inr ⟨_, h3 ha hb _, .inr hb⟩
    · obtain ⟨m, hm, hk⟩ := h1 ha hb
      exact .inl ⟨_, hk _, ⟨hm.overlay, hm.boot, hm.cartLen, rfl, hm.wf, id⟩, rfl⟩

theorem tame_push16 {s : State} {v : Word} {k : State → Result} (hk : ∀ t, Keeps s t → t.status = s.status → Tame s (k t)) :
    Tame s (s.push16 v k) := by
  obtain ⟨h1, h2, h3⟩ := s.push16_spec v
  by_cases ha : s.mem.under (s.sp - 1#16) = none
  · exact .inr ⟨_, h2 ha _, .inr ha⟩
  · by_cases hb : s.mem.under (s.sp - 2#16) = none
    · exact .inr ⟨_, h3 ha hb _, .inr hb⟩
    · obtain ⟨m, hm, hk'⟩ := h1 ha hb
      rw [hk']
      exact hk _ ⟨hm.overlay, hm.boot, hm.cartLen, rfl, hm.wf, id⟩ rfl

theorem tame_pop16 {s : State} {k : Word → State → Result} (hk : ∀ v t, Keeps s t → t.status = s.status → Tame s (k v t)) :
    Tame s (s.pop16 k) := by
  obtain ⟨h1, h2, h3⟩ := s.pop16_spec k
  cases ha : s.mem.readByte s.sp with
  | none => exact .inr ⟨_, h2 ha, .inl ha⟩
  | some lo =>
    cases hb : s.mem.readByte (s.sp + 1#16) with
    | none => exact .inr ⟨_, h3 lo ha hb, .inl hb⟩
    | some hi => rw [h1 lo hi ha hb]; exact hk _ _ ⟨rfl, rfl, rfl, rfl, id, id⟩ rfl

theorem tame_read8 {s : State} {o : Opnd8} {k : Byte → Result} (hk : ∀ v, Tame s (k v)) : Tame s (s.read8 o k) := by
  cases o with
  | reg r => exact hk _
  | atHl => exact tame_load hk

theorem tame_write8 {s : State} {o : Opnd8} {v : Byte} {k : State → Result}
    (hk : ∀ t, Keeps s t → t.status = s.status → Tame s (k t)) : Tame s (s.write8 o v k) := by
  cases o with
  | reg r => exact hk _ (.ofMem (by simp) (by simp) (by simp)) (by simp)
  | atHl => exact tame_store fun m hm => hk _ (.ofStored hm) rfl

/-! ## The shared meanings -/

variable (s : State)

/-- An update of registers alone. -/
theorem tame_regs {t : State} (m : t.mem = s.mem) (st : t.status = s.status) (p : t.params = s.params)
    (l : s.f &&& 0x0F#8 = 0#8 → t.f &&& 0x0F#8 = 0#8) : Tame s (.next t) := tame_next (.ofMem m p l) st

theorem setZNHC_low {t : State} (z n h c : Bool) : (t.setZNHC z n h c).f &&& 0x0F#8 = t.f &&& 0x0F#8 := by
  simp [State.setZNHC, State.setZNH, State.setFlag]
theorem setZNH_low {t : State} (z n h : Bool) : (t.setZNH z n h).f &&& 0x0F#8 = t.f &&& 0x0F#8 := by
  simp [State.setZNH, State.setFlag]
theorem setNHC_low {t : State} (n h c : Bool) : (t.setNHC n h c).f &&& 0x0F#8 = t.f &&& 0x0F#8 := by
  simp [State.setNHC, State.setFlag]

theorem copyReg_tame (dst src : Reg8) : Tame s (copyReg dst src s) :=
  tame_regs s (by simp) (by simp) (by simp) (by simp)
theorem setReg_tame (r : Reg8) (n : Byte) : Tame s (.next (s.setReg r n)) :=
  tame_regs s (by simp) (by simp) (by simp) (by simp)
theorem loadReg_tame (a : Word) (r : Reg8) : Tame s (loadReg a r s) := tame_load fun v => setReg_tame s r v
theorem store_tame (a : Word) (v : Byte) : Tame s (s.store a v .next) :=
  tame_store fun _ hm => tame_next (.ofStored hm) rfl
theorem storeReg_tame (a : Word) (r : Reg8) : Tame s (storeReg a r s) := store_tame s a _
theorem loadPairImm_tame (p : PairSp) (nn : Word) : Tame s (loadPairImm p nn s) := by
  cases p <;> exact tame_regs s rfl rfl rfl id
theorem storeAStep_tame (d : Word) : Tame s (storeAStep d s) :=
  tame_store fun _ hm => tame_next ((Keeps.ofStored hm).trans (.ofMem rfl rfl id)) rfl
theorem loadAStep_tame (d : Word) : Tame s (loadAStep d s) :=
  tame_load fun _ => tame_regs s (by simp) (by simp) (by simp) (by simp)
theorem loadHlSpOffset_tame (e : Byte) : Tame s (loadHlSpOffset e s) := by
  refine tame_regs s rfl rfl rfl fun h => ?_
  rw [State.setHl_f, State.spOffsetFlags, setZNHC_low, h]
theorem aluOperand_tame (op : AluOp) (src : AluSrc) : Tame s (aluOperand op src s) := by
  have h : ∀ v, Tame s (.next (s.alu8 op v)) := fun v => by
    obtain ⟨r, f, he, hf⟩ := s.alu8_eq op v
    rw [he]; exact tame_regs s rfl rfl rfl fun h => hf.trans h
  cases src with
  | opnd o => exact tame_read8 h
  | imm n => exact h n
theorem incOperand_tame (o : Opnd8) : Tame s (incOperand o s) :=
  tame_read8 fun _ => tame_write8 fun _ ht hs => tame_next (ht.trans (.ofMem rfl rfl fun h => (setZNH_low ..).trans h)) hs
theorem decOperand_tame (o : Opnd8) : Tame s (decOperand o s) :=
  tame_read8 fun _ => tame_write8 fun _ ht hs => tame_next (ht.trans (.ofMem rfl rfl fun h => (setZNH_low ..).trans h)) hs
theorem decimalAdjust_tame : Tame s (decimalAdjust s) :=
  tame_regs s rfl rfl rfl fun h => (setZNHC_low ..).trans h
theorem complementA_tame : Tame s (complementA s) :=
  tame_regs s rfl rfl rfl fun h => by simpa [State.setFlag] using h
theorem setCarry_tame : Tame s (setCarry s) := tame_regs s rfl rfl rfl fun h => (setNHC_low ..).trans h
theorem complementCarry_tame : Tame s (complementCarry s) := tame_regs s rfl rfl rfl fun h => (setNHC_low ..).trans h
theorem incPair_tame (p : PairSp) : Tame s (incPair p s) := by
  unfold incPair State.inc16Flags
  cases (s.setPairSp p (s.pairSp p + 1#16)).params.inc16Flags <;> cases p <;>
    first
      | exact tame_regs s rfl rfl rfl fun h => (setZNH_low ..).trans h
      | exact tame_regs s rfl rfl rfl id
theorem decPair_tame (p : PairSp) : Tame s (decPair p s) := by cases p <;> exact tame_regs s rfl rfl rfl id
theorem addToHl_tame (p : PairSp) : Tame s (addToHl p s) :=
  tame_regs s rfl rfl rfl fun h => (setNHC_low ..).trans h
theorem addSpOffset_tame (e : Byte) : Tame s (addSpOffset e s) :=
  tame_regs s rfl rfl rfl fun h => (setZNHC_low ..).trans h
theorem rotateA_tame (op : ShiftOp) : Tame s (rotateA op s) :=
  tame_regs s rfl rfl rfl fun h => (setZNHC_low ..).trans h
theorem shiftOperand_tame (op : ShiftOp) (o : Opnd8) : Tame s (shiftOperand op o s) :=
  tame_read8 fun _ => tame_write8 fun _ ht hs => tame_next (ht.trans (.ofMem rfl rfl fun h => (setZNHC_low ..).trans h)) hs
theorem testBit_tame (b : Fin 8) (o : Opnd8) : Tame s (testBit b o s) :=
  tame_read8 fun _ => tame_regs s rfl rfl rfl fun h => (setZNH_low ..).trans h
theorem resetBit_tame (b : Fin 8) (o : Opnd8) : Tame s (resetBit b o s) :=
  tame_read8 fun _ => tame_write8 fun _ ht hs => tame_next ht hs
theorem setBit_tame (b : Fin 8) (o : Opnd8) : Tame s (setBit b o s) :=
  tame_read8 fun _ => tame_write8 fun _ ht hs => tame_next ht hs
theorem extOperation_tame (b : Byte) : Tame s (extOperation b s) := by
  unfold extOperation
  split
  · exact shiftOperand_tame ..
  · exact testBit_tame ..
  · exact resetBit_tame ..
  · exact setBit_tame ..
theorem jumpRelative_tame (e : Byte) : Tame s (jumpRelative e s) := tame_regs s rfl rfl rfl id
theorem setPc_tame (w : Word) : Tame s (.next (s.setPc w)) := tame_regs s rfl rfl rfl id
theorem jumpRelativeIf_tame (cc : Cond) (e : Byte) : Tame s (jumpRelativeIf cc e s) := by
  unfold jumpRelativeIf; split
  · exact jumpRelative_tame s e
  · exact tame_next (.refl s) rfl
theorem jumpIf_tame (cc : Cond) (nn : Word) : Tame s (jumpIf cc nn s) := by
  unfold jumpIf; split
  · exact setPc_tame s nn
  · exact tame_next (.refl s) rfl
theorem callTo_tame (w : Word) : Tame s (callTo w s) :=
  tame_push16 fun _ ht hs => tame_next (ht.trans (.ofMem rfl rfl id)) hs
theorem callIf_tame (cc : Cond) (nn : Word) : Tame s (callIf cc nn s) := by
  unfold callIf; split
  · exact callTo_tame s nn
  · exact tame_next (.refl s) rfl
theorem ret_tame : Tame s (execRet s) := tame_pop16 fun _ _ ht hs => tame_next (ht.trans (.ofMem rfl rfl id)) hs
theorem returnIf_tame (cc : Cond) : Tame s (returnIf cc s) := by
  unfold returnIf; split
  · exact ret_tame s
  · exact tame_next (.refl s) rfl
theorem pushPair_tame (p : PairAf) : Tame s (pushPair p s) := tame_push16 fun _ ht hs => tame_next ht hs
theorem popPair_tame (p : PairAf) : Tame s (popPair p s) := by
  refine tame_pop16 fun v t ht hs => tame_next (ht.trans ?_) (by cases p <;> exact hs)
  cases p
  · exact .ofMem rfl rfl id
  · exact .ofMem rfl rfl id
  · exact .ofMem rfl rfl id
  · exact .ofMem rfl rfl fun _ => by
      show loByte v &&& 0xF0#8 &&& 0x0F#8 = 0#8
      rw [BitVec.and_assoc]; simp

/-- Raising UnimplementedOpcode keeps them too (R343). -/
theorem raise_keeps (x : Bool) (op : Byte) (a : Word) : Keeps s (s.raiseUnimplemented x op a) := .ofMem rfl rfl id

end Sys2Proof.Machine
end

