-- ==== Sys2Proof/Laws/Exec.lean ====
section
/-! SUPPORT. The meaning of each operation's constructors, once per operation: no proof takes the
512 arms of `exec` apart again. -/

namespace Sys2Proof.Machine

theorem exec_ofLdRR (dst src : Reg8) : exec (Instr.ofLdRR dst src) = copyReg dst src := by
  cases dst <;> cases src <;> rfl

theorem exec_ofLdRHl (r : Reg8) (s : State) : exec (Instr.ofLdRHl r) s = loadReg s.hl r s := by
  cases r <;> rfl

theorem exec_ofLdHlR (r : Reg8) (s : State) : exec (Instr.ofLdHlR r) s = storeReg s.hl r s := by
  cases r <;> rfl

theorem exec_ofLdRN (r : Reg8) (n : Byte) (s : State) : exec (Instr.ofLdRN r n) s = .next (s.setReg r n) := by
  cases r <;> rfl

theorem exec_ofLdPair (p : PairSp) (nn : Word) : exec (Instr.ofLdPair p nn) = loadPairImm p nn := by
  cases p <;> rfl

theorem exec_ofIncPair (p : PairSp) (hp : p ≠ .sp) : exec (Instr.ofIncPair p) = incPair p := by
  cases p <;> first | rfl | exact absurd rfl hp

theorem exec_ofDecPair (p : PairSp) : exec (Instr.ofDecPair p) = decPair p := by cases p <;> rfl

theorem exec_ofAddHl (p : PairSp) : exec (Instr.ofAddHl p) = addToHl p := by cases p <;> rfl

theorem exec_ofInc (o : Opnd8) : exec (Instr.ofInc o) = incOperand o := by
  rcases o with r | _
  · cases r <;> rfl
  · rfl

theorem exec_ofDec (o : Opnd8) : exec (Instr.ofDec o) = decOperand o := by
  rcases o with r | _
  · cases r <;> rfl
  · rfl

theorem exec_ofAlu (op : AluOp) (src : AluSrc) : exec (Instr.ofAlu op src) = aluOperand op src := by
  rcases src with o | n
  · rcases o with r | _
    · cases op <;> cases r <;> rfl
    · cases op <;> rfl
  · cases op <;> rfl

theorem exec_ofJr (cc : Cond) (e : Byte) : exec (Instr.ofJr cc e) = jumpRelativeIf cc e := by cases cc <;> rfl

theorem exec_ofJp (cc : Cond) (nn : Word) : exec (Instr.ofJp cc nn) = jumpIf cc nn := by cases cc <;> rfl

theorem exec_ofCall (cc : Cond) (nn : Word) : exec (Instr.ofCall cc nn) = callIf cc nn := by cases cc <;> rfl

theorem exec_ofRet (cc : Cond) : exec (Instr.ofRet cc) = returnIf cc := by cases cc <;> rfl

theorem exec_ofRst (y : Fin 8) : exec (Instr.ofRst y) = callTo (BitVec.ofNat 16 (8 * y.val)) := by
  fin_cases y <;> rfl

theorem exec_ofPush (p : PairAf) : exec (Instr.ofPush p) = pushPair p := by cases p <;> rfl

theorem exec_ofPop (p : PairAf) : exec (Instr.ofPop p) = popPair p := by cases p <;> rfl

theorem exec_ofShift (op : ShiftOp) (o : Opnd8) : exec (Instr.ofShift op o) = shiftOperand op o := by
  rcases o with r | _
  · cases op <;> cases r <;> rfl
  · cases op <;> rfl

theorem exec_ofBit (b : Fin 8) (o : Opnd8) : exec (Instr.ofBit b o) = testBit b o := by
  rcases o with r | _
  · cases r <;> fin_cases b <;> rfl
  · fin_cases b <;> rfl

theorem exec_ofRes (b : Fin 8) (o : Opnd8) : exec (Instr.ofRes b o) = resetBit b o := by
  rcases o with r | _
  · cases r <;> fin_cases b <;> rfl
  · fin_cases b <;> rfl

theorem exec_ofSet (b : Fin 8) (o : Opnd8) : exec (Instr.ofSet b o) = setBit b o := by
  rcases o with r | _
  · cases r <;> fin_cases b <;> rfl
  · fin_cases b <;> rfl

end Sys2Proof.Machine
end

