-- ==== Sys2Proof/Laws/Fetch.lean ====
section
/-! SUPPORT. Everything a fetch can do (spec/30_encoding.md R100 to R102): the overlay switch is done
once, and no instruction byte read after it depends on it. -/

namespace Sys2Proof.Machine

theorem State.fetch8_some {s : State} {v : Byte} (k : Byte → State → Result) (h : s.mem.readByte s.pc = some v) :
    s.fetch8 k = k v (s.setPc (s.pc + 1#16)) := State.load_some _ h

theorem State.fetch8_none {s : State} (k : Byte → State → Result) (h : s.mem.readByte s.pc = none) :
    s.fetch8 k = .fault (.unmappedAddress s.pc) := State.load_none _ h

/-- Everything a 16-bit fetch can do (R102). -/
theorem State.fetch16_spec (s : State) (k : Word → State → Result) :
    (∀ lo hi, s.mem.readByte s.pc = some lo → s.mem.readByte (s.pc + 1#16) = some hi →
      s.fetch16 k = k (word hi lo) (s.setPc (s.pc + 2#16)))
    ∧ (s.mem.readByte s.pc = none → s.fetch16 k = .fault (.unmappedAddress s.pc))
    ∧ (∀ lo, s.mem.readByte s.pc = some lo → s.mem.readByte (s.pc + 1#16) = none →
      s.fetch16 k = .fault (.unmappedAddress (s.pc + 1#16))) := by
  unfold State.fetch16
  refine ⟨fun lo hi h1 h2 => ?_, fun h => ?_, fun lo h1 h2 => ?_⟩
  · rw [State.fetch8_some _ h1, State.fetch8_some (v := hi) _ (by simpa using h2)]
    simp only [State.setPc_pc, word_add_one_add_one]
    rfl
  · rw [State.fetch8_none _ h]
  · rw [State.fetch8_some _ h1, State.fetch8_none _ (by simpa using h2), State.setPc_pc]

/-- A read at or above 0x0100 does not depend on the latch (R61). -/
theorem Memory.readByte_high (m : Memory) (b : Bool) (a : Word) (h : 0xFF < a.toNat) :
    ({ m with bootOverlayActive := b } : Memory).readByte a = m.readByte a := by
  have h' : ¬a.toNat ≤ 0xFF := by omega
  simp [Memory.readByte, Memory.under, h']
  rfl

theorem State.switched_params (s : State) : s.switched.params = s.params := by
  unfold State.switched; split <;> rfl
theorem State.switched_pc (s : State) : s.switched.pc = s.pc := by
  unfold State.switched; split <;> rfl
theorem State.switched_status (s : State) : s.switched.status = s.status := by
  unfold State.switched; split <;> rfl

/-- The latch after the step's own switch. -/
theorem State.switched_overlay (s : State) :
    s.switched.mem.bootOverlayActive = (s.mem.bootOverlayActive && !s.atSwitchPoint) := by
  unfold State.switched; split <;> simp_all

/-- The two bytes after the opcode read the same before and after the step's own switch (R390). -/
theorem State.switched_read (s : State) (n : Nat) (h1 : 1 ≤ n) (h2 : n ≤ 2) :
    s.switched.mem.readByte (s.pc + BitVec.ofNat 16 n) = s.mem.readByte (s.pc + BitVec.ofNat 16 n) := by
  unfold State.switched
  split
  · rename_i h
    apply Memory.readByte_high
    unfold State.atSwitchPoint at h
    have : n = 1 ∨ n = 2 := by omega
    split at h <;> simp only [decide_eq_true_eq] at h <;> rcases this with rfl | rfl <;> bv_omega
  · rfl

theorem State.switchAtStepStart_read (s : State) : s.switchAtStepStart.mem.readByte s.pc = s.mem.readByte s.pc := by
  unfold State.switchAtStepStart
  split
  · rename_i hc
    exact Memory.readByte_high s.mem false s.pc (by rw [hc.2]; decide)
  · rfl

theorem State.switchAtStepStart_pc (s : State) : s.switchAtStepStart.pc = s.pc := by
  unfold State.switchAtStepStart; split <;> rfl

/-- The two places of the switch test come to one switch. -/
theorem State.switch_switch (s : State) :
    (s.switchAtStepStart.setPc (s.pc + 1#16)).switchAfterOpcodeFetch = s.switched.setPc (s.pc + 1#16) := by
  unfold State.switchAtStepStart State.switchAfterOpcodeFetch State.switched State.atSwitchPoint
  cases hp : s.params.overlayPoint
  · by_cases hpc : s.pc = 0x0100#16
    · simp [hp, hpc]
    · simp [hp, hpc]
  · by_cases hpc : s.pc + 1#16 = 0x0100#16
    · simp [hp, hpc]; rfl
    · simp [hp, hpc]

/-- No opcode byte: the step stops at pc. -/
theorem State.fetchInstr_none (s : State) (k : Instr → State → Result) (h : s.mem.readByte s.pc = none) :
    s.fetchInstr k = .fault (.unmappedAddress s.pc) := by
  unfold State.fetchInstr
  rw [State.fetch8_none _ (by rw [State.switchAtStepStart_pc, State.switchAtStepStart_read, h]),
    State.switchAtStepStart_pc]

/-- With an opcode byte: the second byte of the lead-in, the preset's test, the operands. -/
theorem State.fetchInstr_some (s : State) (k : Instr → State → Result) (op : Byte)
    (h : s.mem.readByte s.pc = some op) :
    s.fetchInstr k =
      if op = 0xCB#8 then
        (s.switched.setPc (s.pc + 1#16)).fetch8 fun op2 s3 =>
          if implExt s.params.impl op2 then k (extRow op2) s3
          else .next (s3.raiseUnimplemented true op2 s.pc)
      else if implBase s.params.impl op then (s.switched.setPc (s.pc + 1#16)).fetchOperands (baseRow op) k
      else .next ((s.switched.setPc (s.pc + 1#16)).raiseUnimplemented false op s.pc) := by
  unfold State.fetchInstr
  rw [State.fetch8_some (v := op) _ (by rw [State.switchAtStepStart_pc, State.switchAtStepStart_read, h]),
    State.switchAtStepStart_pc]
  dsimp only
  rw [State.switch_switch]

/-- A running core's step is a fetch and the meaning of what was fetched (R100). -/
theorem step_running {s : State} (h : s.status = .running) : step s = s.fetchInstr exec := by
  unfold step; rw [h]

/-- Everything a fetch can do: stop at an unmapped instruction byte, raise UnimplementedOpcode, or
run one instruction on the switched state with pc moved on. -/
theorem State.fetchInstr_cases (s : State) (k : Instr → State → Result) :
    (∃ a, s.fetchInstr k = .fault (.unmappedAddress a))
    ∨ (∃ pc x op, s.fetchInstr k = .next ((s.switched.setPc pc).raiseUnimplemented x op s.pc))
    ∨ (∃ i pc, s.fetchInstr k = k i (s.switched.setPc pc)) := by
  cases h : s.mem.readByte s.pc with
  | none => exact .inl ⟨_, s.fetchInstr_none k h⟩
  | some op =>
    rw [s.fetchInstr_some k op h]
    split
    · cases h2 : (s.switched.setPc (s.pc + 1#16)).mem.readByte (s.switched.setPc (s.pc + 1#16)).pc with
      | none => exact .inl ⟨_, State.fetch8_none _ h2⟩
      | some op2 =>
        rw [State.fetch8_some _ h2]
        split
        · exact .inr (.inr ⟨_, _, rfl⟩)
        · exact .inr (.inl ⟨_, _, _, rfl⟩)
    · split
      · unfold State.fetchOperands
        split
        · exact .inr (.inr ⟨_, _, rfl⟩)
        · cases h2 : (s.switched.setPc (s.pc + 1#16)).mem.readByte (s.switched.setPc (s.pc + 1#16)).pc with
          | none => exact .inl ⟨_, State.fetch8_none _ h2⟩
          | some n =>
            rw [State.fetch8_some _ h2]
            exact .inr (.inr ⟨_, _, rfl⟩)
        · obtain ⟨f1, f2, f3⟩ := (s.switched.setPc (s.pc + 1#16)).fetch16_spec fun nn t => k (‹Word → Instr› nn) t
          cases h2 : (s.switched.setPc (s.pc + 1#16)).mem.readByte (s.switched.setPc (s.pc + 1#16)).pc with
          | none => exact .inl ⟨_, f2 h2⟩
          | some lo =>
            cases h3 : (s.switched.setPc (s.pc + 1#16)).mem.readByte
                ((s.switched.setPc (s.pc + 1#16)).pc + 1#16) with
            | none => exact .inl ⟨_, f3 lo h2 h3⟩
            | some hi => rw [f1 lo hi h2 h3]; exact .inr (.inr ⟨_, _, rfl⟩)
      · exact .inr (.inl ⟨_, _, _, rfl⟩)

end Sys2Proof.Machine
end

