-- ==== Sys2Proof/Tests/Slice0.lean ====
section
/-! SUPPORT. The model's own tests. Expected results are the spec's: the encodings and presets of
spec/opcode_table.json and spec/30_encoding.md, the vectors of spec/95_test_vectors.md. Then one
witness for each statement of Certificates/Slice0/Obligations.lean that has hypotheses. -/

namespace Sys2Proof.Tests

open Sys2Proof Sys2Proof.Machine

/-! ## Well-formedness -/

/-- The one ill-formed term, for any second byte: the check refuses it (R103, R104). -/
theorem test_wf_refuses_lead_in : (Instr.cbPrefix 0x7C#8).wellFormed = false := by decide

theorem test_wf_accepts : (Instr.jpNn 0x1234#16).wellFormed = true ∧ Instr.bit7H.wellFormed = true := by decide

/-! ## Decoding: each row of spec/opcode_table.json, from its `match` bytes -/

/-- Each byte sequence decodes to its instruction and leaves nothing. -/
def decodesAll (xs : List (List Byte × Instr)) : Bool :=
  xs.all fun x => match decode x.1 with
    | .ok (i, []) => decide (i = x.2)
    | _ => false

theorem test_decode_00 : decodesAll [
    ([0x00#8], .nop), ([0x01#8, 0x34#8, 0x12#8], .ldBcNn 0x1234#16), ([0x02#8], .ldAtBcA),
    ([0x03#8], .incBc), ([0x04#8], .incB), ([0x05#8], .decB), ([0x06#8, 0xA5#8], .ldBN 0xA5#8),
    ([0x07#8], .rlca), ([0x08#8, 0x34#8, 0x12#8], .ldAtNnSp 0x1234#16), ([0x09#8], .addHlBc),
    ([0x0A#8], .ldAAtBc), ([0x0B#8], .decBc), ([0x0C#8], .incC), ([0x0D#8], .decC),
    ([0x0E#8, 0xA5#8], .ldCN 0xA5#8), ([0x0F#8], .rrca)] = true := by decide
theorem test_decode_10 : decodesAll [
    ([0x10#8], .stop), ([0x11#8, 0x34#8, 0x12#8], .ldDeNn 0x1234#16), ([0x12#8], .ldAtDeA),
    ([0x13#8], .incDe), ([0x14#8], .incD), ([0x15#8], .decD), ([0x16#8, 0xA5#8], .ldDN 0xA5#8),
    ([0x17#8], .rla), ([0x18#8, 0xFE#8], .jrE 0xFE#8), ([0x19#8], .addHlDe), ([0x1A#8], .ldAAtDe),
    ([0x1B#8], .decDe), ([0x1C#8], .incE), ([0x1D#8], .decE), ([0x1E#8, 0xA5#8], .ldEN 0xA5#8),
    ([0x1F#8], .rra)] = true := by decide
theorem test_decode_20 : decodesAll [
    ([0x20#8, 0xFE#8], .jrNzE 0xFE#8), ([0x21#8, 0x34#8, 0x12#8], .ldHlNn 0x1234#16),
    ([0x22#8], .ldAtHlIncA), ([0x23#8], .incHl), ([0x24#8], .incH), ([0x25#8], .decH),
    ([0x26#8, 0xA5#8], .ldHN 0xA5#8), ([0x27#8], .daa), ([0x28#8, 0xFE#8], .jrZE 0xFE#8),
    ([0x29#8], .addHlHl), ([0x2A#8], .ldAAtHlInc), ([0x2B#8], .decHl), ([0x2C#8], .incL), ([0x2D#8], .decL),
    ([0x2E#8, 0xA5#8], .ldLN 0xA5#8), ([0x2F#8], .cpl)] = true := by decide
theorem test_decode_30 : decodesAll [
    ([0x30#8, 0xFE#8], .jrNcE 0xFE#8), ([0x31#8, 0x34#8, 0x12#8], .ldSpNn 0x1234#16),
    ([0x32#8], .ldAtHlDecA), ([0x33#8], .incSp), ([0x34#8], .incAtHl), ([0x35#8], .decAtHl),
    ([0x36#8, 0xA5#8], .ldAtHlN 0xA5#8), ([0x37#8], .scf), ([0x38#8, 0xFE#8], .jrCE 0xFE#8),
    ([0x39#8], .addHlSp), ([0x3A#8], .ldAAtHlDec), ([0x3B#8], .decSp), ([0x3C#8], .incA), ([0x3D#8], .decA),
    ([0x3E#8, 0xA5#8], .ldAN 0xA5#8), ([0x3F#8], .ccf)] = true := by decide
theorem test_decode_40 : decodesAll [
    ([0x40#8], .ldBB), ([0x41#8], .ldBC), ([0x42#8], .ldBD), ([0x43#8], .ldBE), ([0x44#8], .ldBH),
    ([0x45#8], .ldBL), ([0x46#8], .ldBAtHl), ([0x47#8], .ldBA), ([0x48#8], .ldCB), ([0x49#8], .ldCC),
    ([0x4A#8], .ldCD), ([0x4B#8], .ldCE), ([0x4C#8], .ldCH), ([0x4D#8], .ldCL), ([0x4E#8], .ldCAtHl),
    ([0x4F#8], .ldCA)] = true := by decide
theorem test_decode_50 : decodesAll [
    ([0x50#8], .ldDB), ([0x51#8], .ldDC), ([0x52#8], .ldDD), ([0x53#8], .ldDE), ([0x54#8], .ldDH),
    ([0x55#8], .ldDL), ([0x56#8], .ldDAtHl), ([0x57#8], .ldDA), ([0x58#8], .ldEB), ([0x59#8], .ldEC),
    ([0x5A#8], .ldED), ([0x5B#8], .ldEE), ([0x5C#8], .ldEH), ([0x5D#8], .ldEL), ([0x5E#8], .ldEAtHl),
    ([0x5F#8], .ldEA)] = true := by decide
theorem test_decode_60 : decodesAll [
    ([0x60#8], .ldHB), ([0x61#8], .ldHC), ([0x62#8], .ldHD), ([0x63#8], .ldHE), ([0x64#8], .ldHH),
    ([0x65#8], .ldHL), ([0x66#8], .ldHAtHl), ([0x67#8], .ldHA), ([0x68#8], .ldLB), ([0x69#8], .ldLC),
    ([0x6A#8], .ldLD), ([0x6B#8], .ldLE), ([0x6C#8], .ldLH), ([0x6D#8], .ldLL), ([0x6E#8], .ldLAtHl),
    ([0x6F#8], .ldLA)] = true := by decide
theorem test_decode_70 : decodesAll [
    ([0x70#8], .ldAtHlB), ([0x71#8], .ldAtHlC), ([0x72#8], .ldAtHlD), ([0x73#8], .ldAtHlE),
    ([0x74#8], .ldAtHlH), ([0x75#8], .ldAtHlL), ([0x76#8], .halt), ([0x77#8], .ldAtHlA), ([0x78#8], .ldAB),
    ([0x79#8], .ldAC), ([0x7A#8], .ldAD), ([0x7B#8], .ldAE), ([0x7C#8], .ldAH), ([0x7D#8], .ldAL),
    ([0x7E#8], .ldAAtHl), ([0x7F#8], .ldAA)] = true := by decide
theorem test_decode_80 : decodesAll [
    ([0x80#8], .addAB), ([0x81#8], .addAC), ([0x82#8], .addAD), ([0x83#8], .addAE), ([0x84#8], .addAH),
    ([0x85#8], .addAL), ([0x86#8], .addAAtHl), ([0x87#8], .addAA), ([0x88#8], .adcAB), ([0x89#8], .adcAC),
    ([0x8A#8], .adcAD), ([0x8B#8], .adcAE), ([0x8C#8], .adcAH), ([0x8D#8], .adcAL), ([0x8E#8], .adcAAtHl),
    ([0x8F#8], .adcAA)] = true := by decide
theorem test_decode_90 : decodesAll [
    ([0x90#8], .subB), ([0x91#8], .subC), ([0x92#8], .subD), ([0x93#8], .subE), ([0x94#8], .subH),
    ([0x95#8], .subL), ([0x96#8], .subAtHl), ([0x97#8], .subA), ([0x98#8], .sbcAB), ([0x99#8], .sbcAC),
    ([0x9A#8], .sbcAD), ([0x9B#8], .sbcAE), ([0x9C#8], .sbcAH), ([0x9D#8], .sbcAL), ([0x9E#8], .sbcAAtHl),
    ([0x9F#8], .sbcAA)] = true := by decide
theorem test_decode_A0 : decodesAll [
    ([0xA0#8], .andB), ([0xA1#8], .andC), ([0xA2#8], .andD), ([0xA3#8], .andE), ([0xA4#8], .andH),
    ([0xA5#8], .andL), ([0xA6#8], .andAtHl), ([0xA7#8], .andA), ([0xA8#8], .xorB), ([0xA9#8], .xorC),
    ([0xAA#8], .xorD), ([0xAB#8], .xorE), ([0xAC#8], .xorH), ([0xAD#8], .xorL), ([0xAE#8], .xorAtHl),
    ([0xAF#8], .xorA)] = true := by decide
theorem test_decode_B0 : decodesAll [
    ([0xB0#8], .orB), ([0xB1#8], .orC), ([0xB2#8], .orD), ([0xB3#8], .orE), ([0xB4#8], .orH),
    ([0xB5#8], .orL), ([0xB6#8], .orAtHl), ([0xB7#8], .orA), ([0xB8#8], .cpB), ([0xB9#8], .cpC),
    ([0xBA#8], .cpD), ([0xBB#8], .cpE), ([0xBC#8], .cpH), ([0xBD#8], .cpL), ([0xBE#8], .cpAtHl),
    ([0xBF#8], .cpA)] = true := by decide
theorem test_decode_C0 : decodesAll [
    ([0xC0#8], .retNz), ([0xC1#8], .popBc), ([0xC2#8, 0x34#8, 0x12#8], .jpNzNn 0x1234#16),
    ([0xC3#8, 0x34#8, 0x12#8], .jpNn 0x1234#16), ([0xC4#8, 0x34#8, 0x12#8], .callNzNn 0x1234#16),
    ([0xC5#8], .pushBc), ([0xC6#8, 0xA5#8], .addAN 0xA5#8), ([0xC7#8], .rst00), ([0xC8#8], .retZ),
    ([0xC9#8], .ret), ([0xCA#8, 0x34#8, 0x12#8], .jpZNn 0x1234#16),
    ([0xCC#8, 0x34#8, 0x12#8], .callZNn 0x1234#16), ([0xCD#8, 0x34#8, 0x12#8], .callNn 0x1234#16),
    ([0xCE#8, 0xA5#8], .adcAN 0xA5#8), ([0xCF#8], .rst08)] = true := by decide
theorem test_decode_D0 : decodesAll [
    ([0xD0#8], .retNc), ([0xD1#8], .popDe), ([0xD2#8, 0x34#8, 0x12#8], .jpNcNn 0x1234#16),
    ([0xD3#8], .illegalD3), ([0xD4#8, 0x34#8, 0x12#8], .callNcNn 0x1234#16), ([0xD5#8], .pushDe),
    ([0xD6#8, 0xA5#8], .subN 0xA5#8), ([0xD7#8], .rst10), ([0xD8#8], .retC), ([0xD9#8], .reti),
    ([0xDA#8, 0x34#8, 0x12#8], .jpCNn 0x1234#16), ([0xDB#8], .illegalDB),
    ([0xDC#8, 0x34#8, 0x12#8], .callCNn 0x1234#16), ([0xDD#8], .illegalDD),
    ([0xDE#8, 0xA5#8], .sbcAN 0xA5#8), ([0xDF#8], .rst18)] = true := by decide
theorem test_decode_E0 : decodesAll [
    ([0xE0#8, 0xA5#8], .ldhAtNA 0xA5#8), ([0xE1#8], .popHl), ([0xE2#8], .ldAtCA), ([0xE3#8], .illegalE3),
    ([0xE4#8], .illegalE4), ([0xE5#8], .pushHl), ([0xE6#8, 0xA5#8], .andN 0xA5#8), ([0xE7#8], .rst20),
    ([0xE8#8, 0xFE#8], .addSpE 0xFE#8), ([0xE9#8], .jpAtHl), ([0xEA#8, 0x34#8, 0x12#8], .ldAtNnA 0x1234#16),
    ([0xEB#8], .illegalEB), ([0xEC#8], .illegalEC), ([0xED#8], .illegalED),
    ([0xEE#8, 0xA5#8], .xorN 0xA5#8), ([0xEF#8], .rst28)] = true := by decide
theorem test_decode_F0 : decodesAll [
    ([0xF0#8, 0xA5#8], .ldhAAtN 0xA5#8), ([0xF1#8], .popAf), ([0xF2#8], .ldAAtC), ([0xF3#8], .di),
    ([0xF4#8], .illegalF4), ([0xF5#8], .pushAf), ([0xF6#8, 0xA5#8], .orN 0xA5#8), ([0xF7#8], .rst30),
    ([0xF8#8, 0xFE#8], .ldHlSpE 0xFE#8), ([0xF9#8], .ldSpHl),
    ([0xFA#8, 0x34#8, 0x12#8], .ldAAtNn 0x1234#16), ([0xFB#8], .ei), ([0xFC#8], .illegalFC),
    ([0xFD#8], .illegalFD), ([0xFE#8, 0xA5#8], .cpN 0xA5#8), ([0xFF#8], .rst38)] = true := by decide
theorem test_decode_CB_00 : decodesAll [
    ([0xCB#8, 0x00#8], .rlcB), ([0xCB#8, 0x01#8], .rlcC), ([0xCB#8, 0x02#8], .rlcD),
    ([0xCB#8, 0x03#8], .rlcE), ([0xCB#8, 0x04#8], .rlcH), ([0xCB#8, 0x05#8], .rlcL),
    ([0xCB#8, 0x06#8], .rlcAtHl), ([0xCB#8, 0x07#8], .rlcA), ([0xCB#8, 0x08#8], .rrcB),
    ([0xCB#8, 0x09#8], .rrcC), ([0xCB#8, 0x0A#8], .rrcD), ([0xCB#8, 0x0B#8], .rrcE),
    ([0xCB#8, 0x0C#8], .rrcH), ([0xCB#8, 0x0D#8], .rrcL), ([0xCB#8, 0x0E#8], .rrcAtHl),
    ([0xCB#8, 0x0F#8], .rrcA)] = true := by decide
theorem test_decode_CB_10 : decodesAll [
    ([0xCB#8, 0x10#8], .rlB), ([0xCB#8, 0x11#8], .rlC), ([0xCB#8, 0x12#8], .rlD), ([0xCB#8, 0x13#8], .rlE),
    ([0xCB#8, 0x14#8], .rlH), ([0xCB#8, 0x15#8], .rlL), ([0xCB#8, 0x16#8], .rlAtHl),
    ([0xCB#8, 0x17#8], .rlA), ([0xCB#8, 0x18#8], .rrB), ([0xCB#8, 0x19#8], .rrC), ([0xCB#8, 0x1A#8], .rrD),
    ([0xCB#8, 0x1B#8], .rrE), ([0xCB#8, 0x1C#8], .rrH), ([0xCB#8, 0x1D#8], .rrL),
    ([0xCB#8, 0x1E#8], .rrAtHl), ([0xCB#8, 0x1F#8], .rrA)] = true := by decide
theorem test_decode_CB_20 : decodesAll [
    ([0xCB#8, 0x20#8], .slaB), ([0xCB#8, 0x21#8], .slaC), ([0xCB#8, 0x22#8], .slaD),
    ([0xCB#8, 0x23#8], .slaE), ([0xCB#8, 0x24#8], .slaH), ([0xCB#8, 0x25#8], .slaL),
    ([0xCB#8, 0x26#8], .slaAtHl), ([0xCB#8, 0x27#8], .slaA), ([0xCB#8, 0x28#8], .sraB),
    ([0xCB#8, 0x29#8], .sraC), ([0xCB#8, 0x2A#8], .sraD), ([0xCB#8, 0x2B#8], .sraE),
    ([0xCB#8, 0x2C#8], .sraH), ([0xCB#8, 0x2D#8], .sraL), ([0xCB#8, 0x2E#8], .sraAtHl),
    ([0xCB#8, 0x2F#8], .sraA)] = true := by decide
theorem test_decode_CB_30 : decodesAll [
    ([0xCB#8, 0x30#8], .swapB), ([0xCB#8, 0x31#8], .swapC), ([0xCB#8, 0x32#8], .swapD),
    ([0xCB#8, 0x33#8], .swapE), ([0xCB#8, 0x34#8], .swapH), ([0xCB#8, 0x35#8], .swapL),
    ([0xCB#8, 0x36#8], .swapAtHl), ([0xCB#8, 0x37#8], .swapA), ([0xCB#8, 0x38#8], .srlB),
    ([0xCB#8, 0x39#8], .srlC), ([0xCB#8, 0x3A#8], .srlD), ([0xCB#8, 0x3B#8], .srlE),
    ([0xCB#8, 0x3C#8], .srlH), ([0xCB#8, 0x3D#8], .srlL), ([0xCB#8, 0x3E#8], .srlAtHl),
    ([0xCB#8, 0x3F#8], .srlA)] = true := by decide
theorem test_decode_CB_40 : decodesAll [
    ([0xCB#8, 0x40#8], .bit0B), ([0xCB#8, 0x41#8], .bit0C), ([0xCB#8, 0x42#8], .bit0D),
    ([0xCB#8, 0x43#8], .bit0E), ([0xCB#8, 0x44#8], .bit0H), ([0xCB#8, 0x45#8], .bit0L),
    ([0xCB#8, 0x46#8], .bit0AtHl), ([0xCB#8, 0x47#8], .bit0A), ([0xCB#8, 0x48#8], .bit1B),
    ([0xCB#8, 0x49#8], .bit1C), ([0xCB#8, 0x4A#8], .bit1D), ([0xCB#8, 0x4B#8], .bit1E),
    ([0xCB#8, 0x4C#8], .bit1H), ([0xCB#8, 0x4D#8], .bit1L), ([0xCB#8, 0x4E#8], .bit1AtHl),
    ([0xCB#8, 0x4F#8], .bit1A)] = true := by decide
theorem test_decode_CB_50 : decodesAll [
    ([0xCB#8, 0x50#8], .bit2B), ([0xCB#8, 0x51#8], .bit2C), ([0xCB#8, 0x52#8], .bit2D),
    ([0xCB#8, 0x53#8], .bit2E), ([0xCB#8, 0x54#8], .bit2H), ([0xCB#8, 0x55#8], .bit2L),
    ([0xCB#8, 0x56#8], .bit2AtHl), ([0xCB#8, 0x57#8], .bit2A), ([0xCB#8, 0x58#8], .bit3B),
    ([0xCB#8, 0x59#8], .bit3C), ([0xCB#8, 0x5A#8], .bit3D), ([0xCB#8, 0x5B#8], .bit3E),
    ([0xCB#8, 0x5C#8], .bit3H), ([0xCB#8, 0x5D#8], .bit3L), ([0xCB#8, 0x5E#8], .bit3AtHl),
    ([0xCB#8, 0x5F#8], .bit3A)] = true := by decide
theorem test_decode_CB_60 : decodesAll [
    ([0xCB#8, 0x60#8], .bit4B), ([0xCB#8, 0x61#8], .bit4C), ([0xCB#8, 0x62#8], .bit4D),
    ([0xCB#8, 0x63#8], .bit4E), ([0xCB#8, 0x64#8], .bit4H), ([0xCB#8, 0x65#8], .bit4L),
    ([0xCB#8, 0x66#8], .bit4AtHl), ([0xCB#8, 0x67#8], .bit4A), ([0xCB#8, 0x68#8], .bit5B),
    ([0xCB#8, 0x69#8], .bit5C), ([0xCB#8, 0x6A#8], .bit5D), ([0xCB#8, 0x6B#8], .bit5E),
    ([0xCB#8, 0x6C#8], .bit5H), ([0xCB#8, 0x6D#8], .bit5L), ([0xCB#8, 0x6E#8], .bit5AtHl),
    ([0xCB#8, 0x6F#8], .bit5A)] = true := by decide
theorem test_decode_CB_70 : decodesAll [
    ([0xCB#8, 0x70#8], .bit6B), ([0xCB#8, 0x71#8], .bit6C), ([0xCB#8, 0x72#8], .bit6D),
    ([0xCB#8, 0x73#8], .bit6E), ([0xCB#8, 0x74#8], .bit6H), ([0xCB#8, 0x75#8], .bit6L),
    ([0xCB#8, 0x76#8], .bit6AtHl), ([0xCB#8, 0x77#8], .bit6A), ([0xCB#8, 0x78#8], .bit7B),
    ([0xCB#8, 0x79#8], .bit7C), ([0xCB#8, 0x7A#8], .bit7D), ([0xCB#8, 0x7B#8], .bit7E),
    ([0xCB#8, 0x7C#8], .bit7H), ([0xCB#8, 0x7D#8], .bit7L), ([0xCB#8, 0x7E#8], .bit7AtHl),
    ([0xCB#8, 0x7F#8], .bit7A)] = true := by decide
theorem test_decode_CB_80 : decodesAll [
    ([0xCB#8, 0x80#8], .res0B), ([0xCB#8, 0x81#8], .res0C), ([0xCB#8, 0x82#8], .res0D),
    ([0xCB#8, 0x83#8], .res0E), ([0xCB#8, 0x84#8], .res0H), ([0xCB#8, 0x85#8], .res0L),
    ([0xCB#8, 0x86#8], .res0AtHl), ([0xCB#8, 0x87#8], .res0A), ([0xCB#8, 0x88#8], .res1B),
    ([0xCB#8, 0x89#8], .res1C), ([0xCB#8, 0x8A#8], .res1D), ([0xCB#8, 0x8B#8], .res1E),
    ([0xCB#8, 0x8C#8], .res1H), ([0xCB#8, 0x8D#8], .res1L), ([0xCB#8, 0x8E#8], .res1AtHl),
    ([0xCB#8, 0x8F#8], .res1A)] = true := by decide
theorem test_decode_CB_90 : decodesAll [
    ([0xCB#8, 0x90#8], .res2B), ([0xCB#8, 0x91#8], .res2C), ([0xCB#8, 0x92#8], .res2D),
    ([0xCB#8, 0x93#8], .res2E), ([0xCB#8, 0x94#8], .res2H), ([0xCB#8, 0x95#8], .res2L),
    ([0xCB#8, 0x96#8], .res2AtHl), ([0xCB#8, 0x97#8], .res2A), ([0xCB#8, 0x98#8], .res3B),
    ([0xCB#8, 0x99#8], .res3C), ([0xCB#8, 0x9A#8], .res3D), ([0xCB#8, 0x9B#8], .res3E),
    ([0xCB#8, 0x9C#8], .res3H), ([0xCB#8, 0x9D#8], .res3L), ([0xCB#8, 0x9E#8], .res3AtHl),
    ([0xCB#8, 0x9F#8], .res3A)] = true := by decide
theorem test_decode_CB_A0 : decodesAll [
    ([0xCB#8, 0xA0#8], .res4B), ([0xCB#8, 0xA1#8], .res4C), ([0xCB#8, 0xA2#8], .res4D),
    ([0xCB#8, 0xA3#8], .res4E), ([0xCB#8, 0xA4#8], .res4H), ([0xCB#8, 0xA5#8], .res4L),
    ([0xCB#8, 0xA6#8], .res4AtHl), ([0xCB#8, 0xA7#8], .res4A), ([0xCB#8, 0xA8#8], .res5B),
    ([0xCB#8, 0xA9#8], .res5C), ([0xCB#8, 0xAA#8], .res5D), ([0xCB#8, 0xAB#8], .res5E),
    ([0xCB#8, 0xAC#8], .res5H), ([0xCB#8, 0xAD#8], .res5L), ([0xCB#8, 0xAE#8], .res5AtHl),
    ([0xCB#8, 0xAF#8], .res5A)] = true := by decide
theorem test_decode_CB_B0 : decodesAll [
    ([0xCB#8, 0xB0#8], .res6B), ([0xCB#8, 0xB1#8], .res6C), ([0xCB#8, 0xB2#8], .res6D),
    ([0xCB#8, 0xB3#8], .res6E), ([0xCB#8, 0xB4#8], .res6H), ([0xCB#8, 0xB5#8], .res6L),
    ([0xCB#8, 0xB6#8], .res6AtHl), ([0xCB#8, 0xB7#8], .res6A), ([0xCB#8, 0xB8#8], .res7B),
    ([0xCB#8, 0xB9#8], .res7C), ([0xCB#8, 0xBA#8], .res7D), ([0xCB#8, 0xBB#8], .res7E),
    ([0xCB#8, 0xBC#8], .res7H), ([0xCB#8, 0xBD#8], .res7L), ([0xCB#8, 0xBE#8], .res7AtHl),
    ([0xCB#8, 0xBF#8], .res7A)] = true := by decide
theorem test_decode_CB_C0 : decodesAll [
    ([0xCB#8, 0xC0#8], .set0B), ([0xCB#8, 0xC1#8], .set0C), ([0xCB#8, 0xC2#8], .set0D),
    ([0xCB#8, 0xC3#8], .set0E), ([0xCB#8, 0xC4#8], .set0H), ([0xCB#8, 0xC5#8], .set0L),
    ([0xCB#8, 0xC6#8], .set0AtHl), ([0xCB#8, 0xC7#8], .set0A), ([0xCB#8, 0xC8#8], .set1B),
    ([0xCB#8, 0xC9#8], .set1C), ([0xCB#8, 0xCA#8], .set1D), ([0xCB#8, 0xCB#8], .set1E),
    ([0xCB#8, 0xCC#8], .set1H), ([0xCB#8, 0xCD#8], .set1L), ([0xCB#8, 0xCE#8], .set1AtHl),
    ([0xCB#8, 0xCF#8], .set1A)] = true := by decide
theorem test_decode_CB_D0 : decodesAll [
    ([0xCB#8, 0xD0#8], .set2B), ([0xCB#8, 0xD1#8], .set2C), ([0xCB#8, 0xD2#8], .set2D),
    ([0xCB#8, 0xD3#8], .set2E), ([0xCB#8, 0xD4#8], .set2H), ([0xCB#8, 0xD5#8], .set2L),
    ([0xCB#8, 0xD6#8], .set2AtHl), ([0xCB#8, 0xD7#8], .set2A), ([0xCB#8, 0xD8#8], .set3B),
    ([0xCB#8, 0xD9#8], .set3C), ([0xCB#8, 0xDA#8], .set3D), ([0xCB#8, 0xDB#8], .set3E),
    ([0xCB#8, 0xDC#8], .set3H), ([0xCB#8, 0xDD#8], .set3L), ([0xCB#8, 0xDE#8], .set3AtHl),
    ([0xCB#8, 0xDF#8], .set3A)] = true := by decide
theorem test_decode_CB_E0 : decodesAll [
    ([0xCB#8, 0xE0#8], .set4B), ([0xCB#8, 0xE1#8], .set4C), ([0xCB#8, 0xE2#8], .set4D),
    ([0xCB#8, 0xE3#8], .set4E), ([0xCB#8, 0xE4#8], .set4H), ([0xCB#8, 0xE5#8], .set4L),
    ([0xCB#8, 0xE6#8], .set4AtHl), ([0xCB#8, 0xE7#8], .set4A), ([0xCB#8, 0xE8#8], .set5B),
    ([0xCB#8, 0xE9#8], .set5C), ([0xCB#8, 0xEA#8], .set5D), ([0xCB#8, 0xEB#8], .set5E),
    ([0xCB#8, 0xEC#8], .set5H), ([0xCB#8, 0xED#8], .set5L), ([0xCB#8, 0xEE#8], .set5AtHl),
    ([0xCB#8, 0xEF#8], .set5A)] = true := by decide
theorem test_decode_CB_F0 : decodesAll [
    ([0xCB#8, 0xF0#8], .set6B), ([0xCB#8, 0xF1#8], .set6C), ([0xCB#8, 0xF2#8], .set6D),
    ([0xCB#8, 0xF3#8], .set6E), ([0xCB#8, 0xF4#8], .set6H), ([0xCB#8, 0xF5#8], .set6L),
    ([0xCB#8, 0xF6#8], .set6AtHl), ([0xCB#8, 0xF7#8], .set6A), ([0xCB#8, 0xF8#8], .set7B),
    ([0xCB#8, 0xF9#8], .set7C), ([0xCB#8, 0xFA#8], .set7D), ([0xCB#8, 0xFB#8], .set7E),
    ([0xCB#8, 0xFC#8], .set7H), ([0xCB#8, 0xFD#8], .set7L), ([0xCB#8, 0xFE#8], .set7AtHl),
    ([0xCB#8, 0xFF#8], .set7A)] = true := by decide

/-- The lead-in's own row (R103): its operand is the second opcode byte, and decoding goes on to the
extended row. -/
theorem test_decode_lead_in : (match baseRow 0xCB#8 with | .opN f => f 0x7C#8 | _ => .nop) = .cbPrefix 0x7C#8
    ∧ decodesAll [([0xCB#8, 0x7C#8], .bit7H)] = true := by decide

/-- A byte sequence that ends inside an instruction is refused by name. -/
theorem test_decode_truncated : (match decode [0xCD#8, 0x00#8] with | .error _ => true | _ => false) = true
    ∧ (match decode [0xCB#8] with | .error _ => true | _ => false) = true
    ∧ (match decode [] with | .error _ => true | _ => false) = true := by decide

/-! ## Presets (R120 to R122) -/

/-- DOC executes 133 base bytes and admits the lead-in, FULL 239 and the lead-in; the other sixteen
are refused. -/
theorem test_preset_base_sizes :
    ((List.range 256).countP fun n => implBase .doc (BitVec.ofNat 8 n)) = 134
    ∧ ((List.range 256).countP fun n => implBase .full (BitVec.ofNat 8 n)) = 240 := by decide +kernel

/-- DOC executes BIT b,r and RL r on registers, 63 second bytes; FULL all 256. -/
theorem test_preset_ext_sizes :
    ((List.range 256).countP fun n => implExt .doc (BitVec.ofNat 8 n)) = 63
    ∧ ((List.range 256).countP fun n => implExt .full (BitVec.ofNat 8 n)) = 256 := by decide +kernel

/-- The refused bytes (R122). -/
theorem test_preset_refused :
    ((List.range 256).filter fun n => !implBase .full (BitVec.ofNat 8 n))
      = [0x10, 0x76, 0xD3, 0xD9, 0xDB, 0xDD, 0xE3, 0xE4, 0xEB, 0xEC, 0xED, 0xF3, 0xF4, 0xFB, 0xFC, 0xFD] := by decide +kernel

/-! ## Table words and loading a word at the next fetch -/

/-- A base row's word has its first byte in bits 7 to 0; an extended row's has the lead-in in bits
15 to 8 (spec/INDEX.md). -/
theorem test_table_words :
    decodeTableWord 8 0x76 = some .halt ∧ decodeTableWord 24 0x123401 = some (.ldBcNn 0x1234#16)
    ∧ decodeTableWord 8 0xCD = some (.callNn 0x0000#16) ∧ decodeTableWord 16 0xCB7C = some .bit7H
    ∧ decodeTableWord 16 0xFE18 = some (.jrE 0xFE#8) := by decide

/-! ## The flag interface (spec/95_test_vectors.md X2a to X2d) -/

theorem test_X2 : putFlag 0x00#8 .h true = 0x20#8 ∧ putFlag 0xF0#8 .z false = 0x70#8
    ∧ putFlag 0x10#8 .c true = 0x10#8 ∧ putFlag 0xA0#8 .n true = 0xE0#8 := by decide

/-! ## Single steps -/

/-- The start state of the vectors: a 32 KiB cartridge of zeros with the vector's bytes at pc, no
boot image, SP = 0xFFFE and every register 0. -/
def vec (impl : Impl) (pc : Word) (bs : List Byte) : State :=
  let s := State.construct { Params.specDefault with impl := impl } RegInit.zero [] []
  if pc.toNat ≤ 0x7FFF then
    { s with pc := pc, mem := { s.mem with
        cartLen := 0x8000
        cart := cellsFrom pc.toNat (bs.take (0x8000 - pc.toNat))
        vram := cellsFrom 0 (bs.drop (0x8000 - pc.toNat)) } }
  else { s with pc := pc, mem := { s.mem with cartLen := 0x8000, vram := cellsFrom (pc.toNat - 0x8000) bs } }

/-- With data in the writable regions. -/
def withRam (s : State) (vram io hram : List Host.Cell) : State :=
  { s with mem := { s.mem with vram := vram, io := io, hram := hram } }

/-- With a cartridge of another length. -/
def cartOf (s : State) (n : Nat) : State := { s with mem := { s.mem with cartLen := n } }

/-- The step answers exactly the given next state. -/
def endsIn (s : State) (f : State → State) : Bool :=
  match step s with
  | .next t => decide (t = f s)
  | _ => false

/-- The step stops with UnmappedAddress at the given address. -/
def stopsAt (s : State) (a : Word) : Bool :=
  match step s with
  | .fault (.unmappedAddress b) => decide (b = a)
  | _ => false


/-! ## Loads (spec/95_test_vectors.md, vectors for 41_loads.md) -/
-- R140
theorem test_TV_L1 :
    endsIn (vec .doc 0x0200#16 [0x01#8, 0x34#8, 0x12#8])
      (fun s => { s with b := 0x12#8, c := 0x34#8, pc := 0x0203#16 }) = true := by
  decide
-- R140; SP may hold an unmapped address; no access is made
theorem test_TV_L2 :
    endsIn (vec .doc 0x0200#16 [0x31#8, 0x00#8, 0xC0#8])
      (fun s => { s with sp := 0xC000#16, pc := 0x0203#16 }) = true := by
  decide
-- R141
theorem test_TV_L3 :
    endsIn (vec .doc 0x0200#16 [0x06#8, 0xA5#8])
      (fun s => { s with b := 0xA5#8, pc := 0x0202#16 }) = true := by
  decide
-- R143
theorem test_TV_L5 :
    endsIn { vec .doc 0x0200#16 [0x78#8] with b := 0x5A#8 }
      (fun s => { s with a := 0x5A#8, pc := 0x0201#16 }) = true := by
  decide
-- R143; load into itself
theorem test_TV_L6 :
    endsIn { vec .doc 0x0200#16 [0x7F#8] with a := 0x12#8, f := 0xB0#8 }
      (fun s => { s with pc := 0x0201#16 }) = true := by
  decide
-- R144
theorem test_TV_L7 :
    endsIn { withRam (vec .doc 0x0200#16 [0x7E#8]) [(0x123, 0x9C#8)] [] [] with h := 0x81#8, l := 0x23#8 }
      (fun s => { s with a := 0x9C#8, pc := 0x0201#16 }) = true := by
  decide
-- R145
theorem test_TV_L8 :
    endsIn { vec .doc 0x0200#16 [0x70#8] with b := 0x44#8, h := 0xFF#8, l := 0x90#8 }
      (fun s => { s with pc := 0x0201#16, mem := { s.mem with hram := [(0x10, 0x44#8)] } }) = true := by
  decide
-- R146; HL+ wraps past 0xFFFE to 0xFFFF without an access there
theorem test_TV_L9 :
    endsIn { vec .doc 0x0200#16 [0x22#8] with a := 0x11#8, h := 0xFF#8, l := 0xFE#8 }
      (fun s => { s with l := 0xFF#8, pc := 0x0201#16, mem := { s.mem with hram := [(0x7E, 0x11#8)] } }) = true := by
  decide
-- R147; HL- crosses into the cartridge range
theorem test_TV_L10 :
    endsIn { vec .doc 0x0200#16 [0x32#8] with a := 0x22#8, h := 0x80#8, l := 0x00#8 }
      (fun s => { s with h := 0x7F#8, l := 0xFF#8, pc := 0x0201#16, mem := { s.mem with vram := [(0x0, 0x22#8)] } }) = true := by
  decide
-- R148
theorem test_TV_L11 :
    endsIn { withRam (vec .doc 0x0200#16 [0x2A#8]) [(0x1FFF, 0x5E#8)] [] [] with h := 0x9F#8, l := 0xFF#8 }
      (fun s => { s with a := 0x5E#8, h := 0xA0#8, l := 0x00#8, pc := 0x0201#16 }) = true := by
  decide
-- R149
theorem test_TV_L12 :
    endsIn { withRam (vec .doc 0x0200#16 [0x3A#8]) [] [] [(0x0, 0x66#8)] with h := 0xFF#8, l := 0x80#8 }
      (fun s => { s with a := 0x66#8, l := 0x7F#8, pc := 0x0201#16 }) = true := by
  decide
-- R145; unmapped data write
theorem test_TV_L13 :
    stopsAt { vec .doc 0x0200#16 [0x77#8] with a := 0x01#8, h := 0xC0#8, l := 0x00#8 } 0xC000#16 = true := by
  decide
-- R144; 0xFFFF is unmapped
theorem test_TV_L14 :
    stopsAt { vec .doc 0x0200#16 [0x7E#8] with h := 0xFF#8, l := 0xFF#8 } 0xFFFF#16 = true := by
  decide
-- R154
theorem test_TV_L15 :
    endsIn { vec .full 0x0200#16 [0xE0#8, 0x80#8] with a := 0x3C#8 }
      (fun s => { s with pc := 0x0202#16, mem := { s.mem with hram := [(0x0, 0x3C#8)] } }) = true := by
  decide
-- R157
theorem test_TV_L16 :
    endsIn { withRam (vec .full 0x0200#16 [0xF2#8]) [] [] [(0x5, 0xA7#8)] with c := 0x85#8 }
      (fun s => { s with a := 0xA7#8, pc := 0x0201#16 }) = true := by
  decide
-- R158
theorem test_TV_L17 :
    endsIn { vec .full 0x0200#16 [0x08#8, 0x00#8, 0x90#8] with sp := 0xBEEF#16 }
      (fun s => { s with pc := 0x0203#16, mem := { s.mem with vram := [(0x1000, 0xEF#8), (0x1001, 0xBE#8)] } }) = true := by
  decide
-- R158; first byte lands at 0xFFFE, second faults at 0xFFFF
theorem test_TV_L18 :
    stopsAt { vec .full 0x0200#16 [0x08#8, 0xFE#8, 0xFF#8] with sp := 0x1234#16 } 0xFFFF#16 = true := by
  decide
-- R160
theorem test_TV_L19 :
    endsIn { vec .full 0x0200#16 [0xF8#8, 0x02#8] with sp := 0xFFF8#16 }
      (fun s => { s with h := 0xFF#8, l := 0xFA#8, pc := 0x0202#16 }) = true := by
  decide
-- R160; e = -1: H and C from the unsigned low-byte add 0x01+0xFF
theorem test_TV_L20 :
    endsIn { vec .full 0x0200#16 [0xF8#8, 0xFF#8] with h := 0x12#8, l := 0x34#8, sp := 0x0001#16 }
      (fun s => { s with f := 0x30#8, h := 0x00#8, l := 0x00#8, pc := 0x0202#16 }) = true := by
  decide
-- R159
theorem test_TV_L21 :
    endsIn { vec .full 0x0200#16 [0xF9#8] with h := 0x88#8, l := 0x00#8 }
      (fun s => { s with sp := 0x8800#16, pc := 0x0201#16 }) = true := by
  decide
-- R153
theorem test_TV_L22 :
    endsIn (withRam (vec .full 0x0200#16 [0xFA#8, 0x00#8, 0x80#8]) [(0x0, 0x42#8)] [] [])
      (fun s => { s with a := 0x42#8, pc := 0x0203#16 }) = true := by
  decide
-- R150; FULL-only form under DOC
theorem test_TV_L23 :
    endsIn { vec .doc 0x0200#16 [0x02#8] with a := 0x01#8, b := 0x80#8, c := 0x00#8 }
      (fun s => { s with pc := 0x0201#16, status := .faulted (.unimplementedOpcode false 0x02#8 0x0200#16) }) = true := by
  decide

/-! ## 8-bit ALU (vectors for 42_alu8.md) -/
-- R183; §8 XOR A,A property
theorem test_TV_A1 :
    endsIn { vec .doc 0x0200#16 [0xAF#8] with a := 0x5C#8, f := 0x70#8 }
      (fun s => { s with a := 0x00#8, f := 0x80#8, pc := 0x0201#16 }) = true := by
  decide
-- R183
theorem test_TV_A2 :
    endsIn { vec .doc 0x0200#16 [0xA8#8] with a := 0xF0#8, f := 0x10#8, b := 0xFF#8 }
      (fun s => { s with a := 0x0F#8, f := 0x00#8, pc := 0x0201#16 }) = true := by
  decide
-- R183
theorem test_TV_A3 :
    endsIn { vec .doc 0x0200#16 [0xEE#8, 0x0F#8] with a := 0x0F#8 }
      (fun s => { s with a := 0x00#8, f := 0x80#8, pc := 0x0202#16 }) = true := by
  decide
-- R183
theorem test_TV_A4 :
    endsIn { withRam (vec .doc 0x0200#16 [0xAE#8]) [(0x0, 0x01#8)] [] [] with a := 0x81#8, h := 0x80#8, l := 0x00#8 }
      (fun s => { s with a := 0x80#8, pc := 0x0201#16 }) = true := by
  decide
-- R184; equal
theorem test_TV_A5 :
    endsIn { vec .doc 0x0200#16 [0xFE#8, 0x3C#8] with a := 0x3C#8 }
      (fun s => { s with f := 0xC0#8, pc := 0x0202#16 }) = true := by
  decide
-- R184; half-borrow, no borrow
theorem test_TV_A6 :
    endsIn { vec .doc 0x0200#16 [0xB9#8] with a := 0x10#8, c := 0x01#8 }
      (fun s => { s with f := 0x60#8, pc := 0x0201#16 }) = true := by
  decide
-- R184; A < n: borrow
theorem test_TV_A7 :
    endsIn { vec .doc 0x0200#16 [0xFE#8, 0x40#8] with a := 0x3C#8 }
      (fun s => { s with f := 0x50#8, pc := 0x0202#16 }) = true := by
  decide
-- R184
theorem test_TV_A8 :
    endsIn { withRam (vec .doc 0x0200#16 [0xBE#8]) [(0x0, 0x2F#8)] [] [] with a := 0x3C#8, h := 0x80#8, l := 0x00#8 }
      (fun s => { s with f := 0x60#8, pc := 0x0201#16 }) = true := by
  decide
-- R185; wrap to 0; C stays 1
theorem test_TV_A9 :
    endsIn { vec .doc 0x0200#16 [0x3C#8] with a := 0xFF#8, f := 0x50#8 }
      (fun s => { s with a := 0x00#8, f := 0xB0#8, pc := 0x0201#16 }) = true := by
  decide
-- R185; carry out of bit 3
theorem test_TV_A10 :
    endsIn { vec .doc 0x0200#16 [0x04#8] with b := 0x0F#8 }
      (fun s => { s with f := 0x20#8, b := 0x10#8, pc := 0x0201#16 }) = true := by
  decide
-- R186; C stays 1
theorem test_TV_A11 :
    endsIn { vec .doc 0x0200#16 [0x0D#8] with f := 0x10#8, c := 0x01#8 }
      (fun s => { s with f := 0xD0#8, c := 0x00#8, pc := 0x0201#16 }) = true := by
  decide
-- R186; wrap to 0xFF; half-borrow
theorem test_TV_A12 :
    endsIn { vec .doc 0x0200#16 [0x15#8] with d := 0x00#8 }
      (fun s => { s with f := 0x60#8, d := 0xFF#8, pc := 0x0201#16 }) = true := by
  decide
-- R186
theorem test_TV_A13 :
    endsIn { vec .doc 0x0200#16 [0x1D#8] with e := 0x10#8 }
      (fun s => { s with f := 0x60#8, e := 0x0F#8, pc := 0x0201#16 }) = true := by
  decide
-- R187
theorem test_TV_A14 :
    endsIn { vec .full 0x0200#16 [0xC6#8, 0xC6#8] with a := 0x3A#8 }
      (fun s => { s with a := 0x00#8, f := 0xB0#8, pc := 0x0202#16 }) = true := by
  decide
-- R188
theorem test_TV_A15 :
    endsIn { vec .full 0x0200#16 [0xCE#8, 0x0F#8] with a := 0xE1#8, f := 0x10#8 }
      (fun s => { s with a := 0xF1#8, f := 0x20#8, pc := 0x0202#16 }) = true := by
  decide
-- R189
theorem test_TV_A16 :
    endsIn { vec .full 0x0200#16 [0x90#8] with a := 0x3E#8, b := 0x3E#8 }
      (fun s => { s with a := 0x00#8, f := 0xC0#8, pc := 0x0201#16 }) = true := by
  decide
-- R190
theorem test_TV_A17 :
    endsIn { vec .full 0x0200#16 [0xDE#8, 0x2A#8] with a := 0x3B#8, f := 0x10#8 }
      (fun s => { s with a := 0x10#8, f := 0x40#8, pc := 0x0202#16 }) = true := by
  decide
-- R191
theorem test_TV_A18 :
    endsIn { vec .full 0x0200#16 [0xA1#8] with a := 0x5A#8, c := 0x3F#8 }
      (fun s => { s with a := 0x1A#8, f := 0x20#8, pc := 0x0201#16 }) = true := by
  decide
-- R192
theorem test_TV_A19 :
    endsIn { vec .full 0x0200#16 [0xB0#8] with a := 0x00#8, f := 0x30#8, b := 0x00#8 }
      (fun s => { s with f := 0x80#8, pc := 0x0201#16 }) = true := by
  decide
-- R193
theorem test_TV_A20 :
    endsIn { withRam (vec .full 0x0200#16 [0x34#8]) [(0x0, 0xFF#8)] [] [] with f := 0x10#8, h := 0x80#8, l := 0x00#8 }
      (fun s => { s with f := 0xB0#8, pc := 0x0201#16, mem := { s.mem with vram := [] } }) = true := by
  decide
-- R194
theorem test_TV_A21 :
    endsIn { withRam (vec .full 0x0200#16 [0x35#8]) [(0x0, 0x01#8)] [] [] with h := 0x80#8, l := 0x00#8 }
      (fun s => { s with f := 0xC0#8, pc := 0x0201#16, mem := { s.mem with vram := [] } }) = true := by
  decide
-- R195; after 0x45 + 0x38
theorem test_TV_A22 :
    endsIn { vec .full 0x0200#16 [0x27#8] with a := 0x7D#8 }
      (fun s => { s with a := 0x83#8, pc := 0x0201#16 }) = true := by
  decide
-- R195; 0x9A adjusts to 0x00 with C
theorem test_TV_A23 :
    endsIn { vec .full 0x0200#16 [0x27#8] with a := 0x9A#8, f := 0x00#8 }
      (fun s => { s with a := 0x00#8, f := 0x90#8, pc := 0x0201#16 }) = true := by
  decide
-- R196
theorem test_TV_A24 :
    endsIn { vec .full 0x0200#16 [0x2F#8] with a := 0x35#8, f := 0x90#8 }
      (fun s => { s with a := 0xCA#8, f := 0xF0#8, pc := 0x0201#16 }) = true := by
  decide
-- R197
theorem test_TV_A25 :
    endsIn { vec .full 0x0200#16 [0x37#8] with f := 0xE0#8 }
      (fun s => { s with f := 0x90#8, pc := 0x0201#16 }) = true := by
  decide
-- R198
theorem test_TV_A26 :
    endsIn { vec .full 0x0200#16 [0x3F#8] with f := 0x70#8 }
      (fun s => { s with f := 0x00#8, pc := 0x0201#16 }) = true := by
  decide
-- R187; ADD is FULL only
theorem test_TV_A27 :
    endsIn { vec .doc 0x0200#16 [0x87#8] with a := 0x07#8 }
      (fun s => { s with pc := 0x0201#16, status := .faulted (.unimplementedOpcode false 0x87#8 0x0200#16) }) = true := by
  decide
-- R193; INC (HL) is FULL only
theorem test_TV_A28 :
    endsIn { vec .doc 0x0200#16 [0x34#8] with h := 0x80#8, l := 0x00#8 }
      (fun s => { s with pc := 0x0201#16, status := .faulted (.unimplementedOpcode false 0x34#8 0x0200#16) }) = true := by
  decide

/-! ## 16-bit arithmetic (vectors for 43_alu16.md) -/
-- R220; INC16_FLAGS = Doc
theorem test_TV_W1 :
    endsIn { vec .doc 0x0200#16 [0x03#8] with b := 0x0F#8, c := 0xFF#8 }
      (fun s => { s with f := 0x20#8, b := 0x10#8, c := 0x00#8, pc := 0x0201#16 }) = true := by
  decide
-- R220; Doc: wrap gives Z=1, H=1, C kept
theorem test_TV_W2 :
    endsIn { vec .doc 0x0200#16 [0x23#8] with f := 0x10#8, h := 0xFF#8, l := 0xFF#8 }
      (fun s => { s with f := 0xB0#8, h := 0x00#8, l := 0x00#8, pc := 0x0201#16 }) = true := by
  decide
-- R220; INC16_FLAGS = None
theorem test_TV_W3 :
    endsIn { vec .doc 0x0200#16 [0x23#8] with f := 0x10#8, h := 0xFF#8, l := 0xFF#8, params := { Params.specDefault with inc16Flags := .none } }
      (fun s => { s with h := 0x00#8, l := 0x00#8, pc := 0x0201#16 }) = true := by
  decide
-- R220; Doc: low byte wraps, Z from 16 bits
theorem test_TV_W4 :
    endsIn { vec .doc 0x0200#16 [0x13#8] with f := 0xF0#8, d := 0x00#8, e := 0xFF#8 }
      (fun s => { s with f := 0x10#8, d := 0x01#8, e := 0x00#8, pc := 0x0201#16 }) = true := by
  decide
-- R221
theorem test_TV_W5 :
    endsIn { vec .full 0x0200#16 [0x33#8] with f := 0x00#8, sp := 0xFFFF#16 }
      (fun s => { s with sp := 0x0000#16, pc := 0x0201#16 }) = true := by
  decide
-- R222
theorem test_TV_W6 :
    endsIn { vec .full 0x0200#16 [0x0B#8] with f := 0x00#8, b := 0x00#8, c := 0x00#8 }
      (fun s => { s with b := 0xFF#8, c := 0xFF#8, pc := 0x0201#16 }) = true := by
  decide
-- R223
theorem test_TV_W7 :
    endsIn { vec .full 0x0200#16 [0x19#8] with f := 0x80#8, d := 0x00#8, e := 0x01#8, h := 0x0F#8, l := 0xFF#8 }
      (fun s => { s with f := 0xA0#8, h := 0x10#8, l := 0x00#8, pc := 0x0201#16 }) = true := by
  decide
-- R223
theorem test_TV_W8 :
    endsIn { vec .full 0x0200#16 [0x29#8] with h := 0x80#8, l := 0x00#8 }
      (fun s => { s with f := 0x10#8, h := 0x00#8, pc := 0x0201#16 }) = true := by
  decide
-- R223
theorem test_TV_W9 :
    endsIn { vec .full 0x0200#16 [0x39#8] with h := 0x10#8, l := 0x00#8 }
      (fun s => { s with f := 0x10#8, h := 0x0F#8, l := 0xFE#8, pc := 0x0201#16 }) = true := by
  decide
-- R224; source-style example
theorem test_TV_W10 :
    endsIn { vec .full 0x0200#16 [0xE8#8, 0x02#8] with sp := 0xFFF8#16 }
      (fun s => { s with sp := 0xFFFA#16, pc := 0x0202#16 }) = true := by
  decide
-- R224; e = -2
theorem test_TV_W11 :
    endsIn { vec .full 0x0200#16 [0xE8#8, 0xFE#8] with sp := 0x0001#16 }
      (fun s => { s with sp := 0xFFFF#16, pc := 0x0202#16 }) = true := by
  decide
-- R224
theorem test_TV_W12 :
    endsIn { vec .full 0x0200#16 [0xE8#8, 0x01#8] with sp := 0x00FF#16 }
      (fun s => { s with f := 0x30#8, sp := 0x0100#16, pc := 0x0202#16 }) = true := by
  decide
-- R222; DEC rr is FULL only
theorem test_TV_W13 :
    endsIn { vec .doc 0x0200#16 [0x0B#8] with b := 0x00#8, c := 0x01#8 }
      (fun s => { s with pc := 0x0201#16, status := .faulted (.unimplementedOpcode false 0x0B#8 0x0200#16) }) = true := by
  decide

/-! ## Accumulator rotates (vectors for 44_rotate_a.md) -/
-- R240
theorem test_TV_R1 :
    endsIn { vec .full 0x0200#16 [0x07#8] with a := 0x85#8, f := 0x80#8 }
      (fun s => { s with a := 0x0B#8, f := 0x10#8, pc := 0x0201#16 }) = true := by
  decide
-- R241
theorem test_TV_R2 :
    endsIn { vec .full 0x0200#16 [0x0F#8] with a := 0x3B#8 }
      (fun s => { s with a := 0x9D#8, f := 0x10#8, pc := 0x0201#16 }) = true := by
  decide
-- R242
theorem test_TV_R3 :
    endsIn { vec .full 0x0200#16 [0x17#8] with a := 0x95#8, f := 0x10#8 }
      (fun s => { s with a := 0x2B#8, pc := 0x0201#16 }) = true := by
  decide
-- R243
theorem test_TV_R4 :
    endsIn { vec .full 0x0200#16 [0x1F#8] with a := 0x81#8 }
      (fun s => { s with a := 0x40#8, f := 0x10#8, pc := 0x0201#16 }) = true := by
  decide
-- R242; result 0 but Z cleared
theorem test_TV_R5 :
    endsIn { vec .full 0x0200#16 [0x17#8] with a := 0x80#8 }
      (fun s => { s with a := 0x00#8, f := 0x10#8, pc := 0x0201#16 }) = true := by
  decide

/-! ## Extended opcode space (vectors for 45_cb_extended.md) -/
-- R251; §8 bit-test, bit set; C kept
theorem test_TV_B1 :
    endsIn { vec .doc 0x0200#16 [0xCB#8, 0x7C#8] with f := 0x10#8, h := 0x80#8 }
      (fun s => { s with f := 0x30#8, pc := 0x0202#16 }) = true := by
  decide
-- R251; bit clear
theorem test_TV_B2 :
    endsIn { vec .doc 0x0200#16 [0xCB#8, 0x7C#8] with f := 0x00#8, h := 0x7F#8 }
      (fun s => { s with f := 0xA0#8, pc := 0x0202#16 }) = true := by
  decide
-- R251
theorem test_TV_B3 :
    endsIn { vec .doc 0x0200#16 [0xCB#8, 0x47#8] with a := 0x01#8, f := 0xD0#8 }
      (fun s => { s with f := 0x30#8, pc := 0x0202#16 }) = true := by
  decide
-- R252; result 0: Z=1, C=1
theorem test_TV_B4 :
    endsIn { vec .doc 0x0200#16 [0xCB#8, 0x11#8] with f := 0x00#8, c := 0x80#8 }
      (fun s => { s with f := 0x90#8, c := 0x00#8, pc := 0x0202#16 }) = true := by
  decide
-- R252
theorem test_TV_B5 :
    endsIn { vec .doc 0x0200#16 [0xCB#8, 0x17#8] with a := 0x95#8, f := 0x10#8 }
      (fun s => { s with a := 0x2B#8, pc := 0x0202#16 }) = true := by
  decide
-- R251; BIT b,(HL) is FULL only
theorem test_TV_B6 :
    endsIn { vec .doc 0x0200#16 [0xCB#8, 0x46#8] with h := 0x80#8, l := 0x00#8 }
      (fun s => { s with pc := 0x0202#16, status := .faulted (.unimplementedOpcode true 0x46#8 0x0200#16) }) = true := by
  decide
-- R251
theorem test_TV_B7 :
    endsIn { withRam (vec .full 0x0200#16 [0xCB#8, 0x46#8]) [(0x0, 0x01#8)] [] [] with f := 0x10#8, h := 0x80#8, l := 0x00#8 }
      (fun s => { s with f := 0x30#8, pc := 0x0202#16 }) = true := by
  decide
-- R252
theorem test_TV_B8 :
    endsIn { withRam (vec .full 0x0200#16 [0xCB#8, 0x16#8]) [(0x0, 0x80#8)] [] [] with f := 0x10#8, h := 0x80#8, l := 0x00#8 }
      (fun s => { s with pc := 0x0202#16, mem := { s.mem with vram := [(0x0, 0x01#8)] } }) = true := by
  decide
-- R253
theorem test_TV_B9 :
    endsIn { vec .full 0x0200#16 [0xCB#8, 0x00#8] with b := 0x85#8 }
      (fun s => { s with f := 0x10#8, b := 0x0B#8, pc := 0x0202#16 }) = true := by
  decide
-- R254
theorem test_TV_B10 :
    endsIn { vec .full 0x0200#16 [0xCB#8, 0x09#8] with c := 0x01#8 }
      (fun s => { s with f := 0x10#8, c := 0x80#8, pc := 0x0202#16 }) = true := by
  decide
-- R255
theorem test_TV_B11 :
    endsIn { vec .full 0x0200#16 [0xCB#8, 0x1A#8] with d := 0x01#8 }
      (fun s => { s with f := 0x90#8, d := 0x00#8, pc := 0x0202#16 }) = true := by
  decide
-- R256
theorem test_TV_B12 :
    endsIn { vec .full 0x0200#16 [0xCB#8, 0x23#8] with e := 0x80#8 }
      (fun s => { s with f := 0x90#8, e := 0x00#8, pc := 0x0202#16 }) = true := by
  decide
-- R257
theorem test_TV_B13 :
    endsIn { vec .full 0x0200#16 [0xCB#8, 0x2C#8] with h := 0x8A#8 }
      (fun s => { s with h := 0xC5#8, pc := 0x0202#16 }) = true := by
  decide
-- R258
theorem test_TV_B14 :
    endsIn { vec .full 0x0200#16 [0xCB#8, 0x35#8] with f := 0x10#8, l := 0xF1#8 }
      (fun s => { s with f := 0x00#8, l := 0x1F#8, pc := 0x0202#16 }) = true := by
  decide
-- R259
theorem test_TV_B15 :
    endsIn { vec .full 0x0200#16 [0xCB#8, 0x3F#8] with a := 0x01#8 }
      (fun s => { s with a := 0x00#8, f := 0x90#8, pc := 0x0202#16 }) = true := by
  decide
-- R260
theorem test_TV_B16 :
    endsIn { vec .full 0x0200#16 [0xCB#8, 0xBF#8] with a := 0xFF#8, f := 0xF0#8 }
      (fun s => { s with a := 0x7F#8, pc := 0x0202#16 }) = true := by
  decide
-- R261
theorem test_TV_B17 :
    endsIn { withRam (vec .full 0x0200#16 [0xCB#8, 0xC6#8]) [] [] [] with h := 0x80#8, l := 0x00#8 }
      (fun s => { s with pc := 0x0202#16, mem := { s.mem with vram := [(0x0, 0x01#8)] } }) = true := by
  decide
-- R253; RLC is FULL only: extended report, pc + 2
theorem test_TV_B18 :
    endsIn { vec .doc 0x0200#16 [0xCB#8, 0x00#8] with b := 0x85#8 }
      (fun s => { s with pc := 0x0202#16, status := .faulted (.unimplementedOpcode true 0x00#8 0x0200#16) }) = true := by
  decide
-- R251; (HL) unmapped
theorem test_TV_B19 :
    stopsAt { vec .full 0x0200#16 [0xCB#8, 0x46#8] with h := 0xA0#8, l := 0x00#8 } 0xA000#16 = true := by
  decide

/-! ## Control transfer (vectors for 46_control.md) -/
-- R281
theorem test_TV_C1 :
    endsIn (vec .doc 0x0200#16 [0x18#8, 0x05#8])
      (fun s => { s with pc := 0x0207#16 }) = true := by
  decide
-- R281; jump to itself: the park
theorem test_TV_C2 :
    endsIn (vec .doc 0x0200#16 [0x18#8, 0xFE#8])
      (fun s => { s with pc := 0x0200#16 }) = true := by
  decide
-- R281; most negative offset
theorem test_TV_C3 :
    endsIn (vec .doc 0x0200#16 [0x18#8, 0x80#8])
      (fun s => { s with pc := 0x0182#16 }) = true := by
  decide
-- R282; NZ fails
theorem test_TV_C4 :
    endsIn { vec .doc 0x0200#16 [0x20#8, 0x10#8] with f := 0x80#8 }
      (fun s => { s with pc := 0x0202#16 }) = true := by
  decide
-- R282; Z holds
theorem test_TV_C5 :
    endsIn { vec .doc 0x0200#16 [0x28#8, 0x10#8] with f := 0x80#8 }
      (fun s => { s with pc := 0x0212#16 }) = true := by
  decide
-- R282; NC holds, backward
theorem test_TV_C6 :
    endsIn { vec .doc 0x0200#16 [0x30#8, 0xF0#8] with f := 0x00#8 }
      (fun s => { s with pc := 0x01F2#16 }) = true := by
  decide
-- R282; C fails
theorem test_TV_C7 :
    endsIn { vec .doc 0x0200#16 [0x38#8, 0xF0#8] with f := 0x00#8 }
      (fun s => { s with pc := 0x0202#16 }) = true := by
  decide
-- R283
theorem test_TV_C8 :
    endsIn (vec .doc 0x0200#16 [0xCD#8, 0x00#8, 0x03#8])
      (fun s => { s with sp := 0xFFFC#16, pc := 0x0300#16, mem := { s.mem with hram := [(0x7C, 0x03#8), (0x7D, 0x02#8)] } }) = true := by
  decide
-- R284; C fails
theorem test_TV_C9 :
    endsIn { vec .doc 0x0200#16 [0xDC#8, 0x00#8, 0x03#8] with f := 0x00#8 }
      (fun s => { s with pc := 0x0203#16 }) = true := by
  decide
-- R284; NZ holds
theorem test_TV_C10 :
    endsIn { vec .doc 0x0200#16 [0xC4#8, 0x00#8, 0x03#8] with f := 0x00#8 }
      (fun s => { s with sp := 0xFFFC#16, pc := 0x0300#16, mem := { s.mem with hram := [(0x7C, 0x03#8), (0x7D, 0x02#8)] } }) = true := by
  decide
-- R285
theorem test_TV_C11 :
    endsIn { withRam (vec .doc 0x0200#16 [0xC9#8]) [] [] [(0x7C, 0x03#8), (0x7D, 0x02#8)] with sp := 0xFFFC#16 }
      (fun s => { s with sp := 0xFFFE#16, pc := 0x0203#16 }) = true := by
  decide
-- R285; pop reads 0xFFFE then faults at 0xFFFF
theorem test_TV_C12 : stopsAt (vec .doc 0x0200#16 [0xC9#8]) 0xFFFF#16 = true := by decide
-- R283; push crosses into the cartridge range: 0x8000 then 0x7FFF
theorem test_TV_C13 :
    endsIn { vec .doc 0x0200#16 [0xCD#8, 0x00#8, 0x03#8] with sp := 0x8001#16 }
      (fun s => { s with sp := 0x7FFF#16, pc := 0x0300#16, mem := { s.mem with cart := cellsSet s.mem.cart 0x7FFF 0x03#8, vram := [(0x0, 0x02#8)] } }) = true := by
  decide
-- R286
theorem test_TV_C14 :
    endsIn (vec .full 0x0200#16 [0xC3#8, 0x34#8, 0x12#8])
      (fun s => { s with pc := 0x1234#16 }) = true := by
  decide
-- R287; Z fails
theorem test_TV_C15 :
    endsIn { vec .full 0x0200#16 [0xCA#8, 0x34#8, 0x12#8] with f := 0x00#8 }
      (fun s => { s with pc := 0x0203#16 }) = true := by
  decide
-- R288; the jump itself does not fault
theorem test_TV_C16 :
    endsIn { vec .full 0x0200#16 [0xE9#8] with h := 0xC0#8, l := 0x00#8 }
      (fun s => { s with pc := 0xC000#16 }) = true := by
  decide
-- R289
theorem test_TV_C17 :
    endsIn { withRam (vec .full 0x0200#16 [0xD8#8]) [] [] [(0x7D, 0x04#8)] with f := 0x10#8, sp := 0xFFFC#16 }
      (fun s => { s with sp := 0xFFFE#16, pc := 0x0400#16 }) = true := by
  decide
-- R289; NZ fails; no stack access, so no fault
theorem test_TV_C18 :
    endsIn { vec .full 0x0200#16 [0xC0#8] with f := 0x80#8 }
      (fun s => { s with pc := 0x0201#16 }) = true := by
  decide
-- R290
theorem test_TV_C19 :
    endsIn (vec .full 0x0200#16 [0xEF#8])
      (fun s => { s with sp := 0xFFFC#16, pc := 0x0028#16, mem := { s.mem with hram := [(0x7C, 0x01#8), (0x7D, 0x02#8)] } }) = true := by
  decide
-- R286; JP is FULL only
theorem test_TV_C20 :
    endsIn (vec .doc 0x0200#16 [0xC3#8, 0x00#8, 0x01#8])
      (fun s => { s with pc := 0x0201#16, status := .faulted (.unimplementedOpcode false 0xC3#8 0x0200#16) }) = true := by
  decide
-- R281; §8 boundary example: backward from near 0x0000 wraps to near 0xFFFF
theorem test_TV_C21 :
    endsIn (vec .doc 0x0000#16 [0x18#8, 0xFC#8])
      (fun s => { s with pc := 0xFFFE#16 }) = true := by
  decide

/-! ## Stack (vectors for 47_stack.md) -/
-- R310
theorem test_TV_S1 :
    endsIn { vec .doc 0x0200#16 [0xC5#8] with b := 0x12#8, c := 0x34#8 }
      (fun s => { s with sp := 0xFFFC#16, pc := 0x0201#16, mem := { s.mem with hram := [(0x7C, 0x34#8), (0x7D, 0x12#8)] } }) = true := by
  decide
-- R310
theorem test_TV_S2 :
    endsIn { vec .doc 0x0200#16 [0xF5#8] with a := 0x12#8, f := 0xB0#8 }
      (fun s => { s with sp := 0xFFFC#16, pc := 0x0201#16, mem := { s.mem with hram := [(0x7C, 0xB0#8), (0x7D, 0x12#8)] } }) = true := by
  decide
-- R311
theorem test_TV_S3 :
    endsIn { withRam (vec .doc 0x0200#16 [0xD1#8]) [] [] [(0x7C, 0xCD#8), (0x7D, 0xAB#8)] with sp := 0xFFFC#16 }
      (fun s => { s with d := 0xAB#8, e := 0xCD#8, sp := 0xFFFE#16, pc := 0x0201#16 }) = true := by
  decide
-- R311; F low nibble dropped
theorem test_TV_S4 :
    endsIn { withRam (vec .doc 0x0200#16 [0xF1#8]) [] [] [(0x7C, 0x3F#8), (0x7D, 0x12#8)] with sp := 0xFFFC#16 }
      (fun s => { s with a := 0x12#8, f := 0x30#8, sp := 0xFFFE#16, pc := 0x0201#16 }) = true := by
  decide
-- R310; second byte goes below high RAM into I/O
theorem test_TV_S5 :
    endsIn { vec .doc 0x0200#16 [0xE5#8] with h := 0xBE#8, l := 0xEF#8, sp := 0xFF81#16 }
      (fun s => { s with sp := 0xFF7F#16, pc := 0x0201#16, mem := { s.mem with io := [(0x7F, 0xEF#8)], hram := [(0x0, 0xBE#8)] } }) = true := by
  decide
-- R310; first push byte hits 0xFEFF
theorem test_TV_S6 :
    stopsAt { vec .doc 0x0200#16 [0xC5#8] with b := 0x12#8, c := 0x34#8, sp := 0xFF00#16 } 0xFEFF#16 = true := by
  decide
-- R311; POP at reset SP faults at 0xFFFF
theorem test_TV_S7 : stopsAt (vec .doc 0x0200#16 [0xE1#8]) 0xFFFF#16 = true := by decide

/-! ## No operation and refused opcodes (vectors for 48_misc.md) -/
-- R320
theorem test_TV_M1 :
    endsIn (vec .doc 0x0200#16 [0x00#8])
      (fun s => { s with pc := 0x0201#16, status := .faulted (.unimplementedOpcode false 0x00#8 0x0200#16) }) = true := by
  decide
-- R320
theorem test_TV_M2 :
    endsIn (vec .full 0x0200#16 [0x00#8])
      (fun s => { s with pc := 0x0201#16 }) = true := by
  decide
-- R322
theorem test_TV_M3 :
    endsIn (vec .full 0x0200#16 [0x76#8])
      (fun s => { s with pc := 0x0201#16, status := .faulted (.unimplementedOpcode false 0x76#8 0x0200#16) }) = true := by
  decide
-- R322; second byte not fetched
theorem test_TV_M4 :
    endsIn (vec .full 0x0200#16 [0x10#8, 0x00#8])
      (fun s => { s with pc := 0x0201#16, status := .faulted (.unimplementedOpcode false 0x10#8 0x0200#16) }) = true := by
  decide
-- R322
theorem test_TV_M5 :
    endsIn (vec .full 0x0200#16 [0xFB#8])
      (fun s => { s with pc := 0x0201#16, status := .faulted (.unimplementedOpcode false 0xFB#8 0x0200#16) }) = true := by
  decide
-- R323
theorem test_TV_M6 :
    endsIn (vec .full 0x0200#16 [0xD3#8])
      (fun s => { s with pc := 0x0201#16, status := .faulted (.unimplementedOpcode false 0xD3#8 0x0200#16) }) = true := by
  decide
-- R323
theorem test_TV_M7 :
    endsIn (vec .doc 0x0200#16 [0xFD#8])
      (fun s => { s with pc := 0x0201#16, status := .faulted (.unimplementedOpcode false 0xFD#8 0x0200#16) }) = true := by
  decide

/-! ## Errors (vectors for 60_exceptions.md) -/
-- R342; opcode fetch unmapped
theorem test_TV_E1 : stopsAt (vec .doc 0xC000#16 []) 0xC000#16 = true := by decide
-- R342; operands straddle the cartridge/VRAM boundary: 0x7FFF and 0x8000 (which holds 0x00)
theorem test_TV_E2 :
    endsIn (vec .full 0x7FFE#16 [0xC3#8, 0x00#8])
      (fun s => { s with pc := 0x0000#16 }) = true := by
  decide
-- R101; execution runs on into VRAM; [0x8000] = 0x00 is the high byte
theorem test_TV_E3 :
    endsIn (vec .doc 0x7FFE#16 [0x01#8, 0x34#8])
      (fun s => { s with c := 0x34#8, pc := 0x8001#16 }) = true := by
  decide
-- R346; operand fetch past a 256-byte cartridge
theorem test_TV_E4 : stopsAt (cartOf (vec .doc 0x00FF#16 [0xCD#8]) 0x0100) 0x0100#16 = true := by decide
-- R346; unimplemented wins: no operand fetch
theorem test_TV_E5 :
    endsIn (cartOf (vec .doc 0x00FF#16 [0xED#8]) 0x0100)
      (fun s => { s with pc := 0x0100#16, status := .faulted (.unimplementedOpcode false 0xED#8 0x00FF#16) }) = true := by
  decide
-- R342; CB second byte past the buffer
theorem test_TV_E6 : stopsAt (cartOf (vec .doc 0x00FF#16 [0xCB#8]) 0x0100) 0x0100#16 = true := by decide
-- R342; second operand byte at 0xA000 is unmapped; witness pc = 0xA000
theorem test_TV_E7 : stopsAt (vec .doc 0x9FFE#16 [0x21#8]) 0xA000#16 = true := by decide

/-! ## The boot overlay (spec/95_test_vectors.md, programs P3 and P6) and reset -/

/-- A core whose overlay is still on, at a pc, with a boot image, cart[0] = 0xAA and code in the cartridge. -/
def booting (op : OverlayPoint) (pc : Word) (boot : List Byte) (code : List Byte) : State :=
  let s := vec .full 0x0100#16 code
  { s with
    pc := pc
    mem := { s.mem with bootOverlayActive := true, boot := boot, cart := (0, 0xAA#8) :: s.mem.cart }
    params := { s.params with overlayPoint := op } }

-- P3, the step at 0x0100: LD A,(0x0000) reads the cartridge under AtStepStart, the boot image under AfterOpcodeFetch
theorem test_P3_at_step_start :
    endsIn (booting .atStepStart 0x0100#16 [0x31#8] [0xFA#8, 0x00#8, 0x00#8]) (fun s =>
      { s with a := 0xAA#8, pc := 0x0103#16, mem := { s.mem with bootOverlayActive := false } }) = true := by decide
theorem test_P3_after_opcode_fetch :
    endsIn (booting .afterOpcodeFetch 0x0100#16 [0x31#8] [0xFA#8, 0x00#8, 0x00#8]) (fun s =>
      { s with a := 0x31#8, pc := 0x0103#16 }) = true := by decide

-- P6, the step at 0x00FF: LD A,(HL) with HL = 0x0000
theorem test_P6_at_step_start :
    endsIn (booting .atStepStart 0x00FF#16 (0x21#8 :: List.replicate 254 0x00#8 ++ [0x7E#8]) []) (fun s =>
      { s with a := 0x21#8, pc := 0x0100#16 }) = true := by
  decide +kernel
theorem test_P6_after_opcode_fetch :
    endsIn (booting .afterOpcodeFetch 0x00FF#16 (0x21#8 :: List.replicate 254 0x00#8 ++ [0x7E#8]) []) (fun s =>
      { s with a := 0xAA#8, pc := 0x0100#16, mem := { s.mem with bootOverlayActive := false } }) = true := by
  decide +kernel

-- R340, R341: what step() returns; R47: nothing on a Faulted core (log 27)
theorem test_stepResult :
    stepResult (vec .full 0x0150#16 [0x00#8]) = some .ok
    ∧ stepResult (vec .doc 0x0150#16 [0x76#8]) = some (.error (.unimplementedOpcode false 0x76#8 0x0150#16))
    ∧ stepResult { vec .doc 0x0150#16 [] with pc := 0xA000#16 } = some (.error (.unmappedAddress 0xA000#16))
    ∧ stepResult { vec .doc 0x0150#16 [] with status := .faulted (.unmappedAddress 0xA000#16) } = none := by
  decide

-- R48: the table of reset values, without and with a boot image
theorem test_reset : State.reset.sp = 0xFFFE#16 ∧ State.reset.pc = 0x0100#16
    ∧ State.reset.mem.bootOverlayActive = false ∧ State.reset.status = .running := by decide
theorem test_construct_boot : (State.construct Params.specDefault ⟨1#8, 0xFF#8, 2#8, 3#8, 4#8, 5#8, 6#8, 7#8⟩
      [0x31#8] [0x00#8, 0x12#8]).pc = 0x0000#16
    ∧ (State.construct Params.specDefault ⟨1#8, 0xFF#8, 2#8, 3#8, 4#8, 5#8, 6#8, 7#8⟩ [0x31#8] [0x00#8, 0x12#8]).f = 0xF0#8
    ∧ (State.construct Params.specDefault RegInit.zero [] [0x00#8, 0x12#8]).mem.cart = [(1, 0x12#8)] := by decide

/-- A word loaded at the next fetch is what the step runs, as the first instruction after reset. -/
theorem test_with_fetch_word :
    endsIn (State.reset.withFetchWord 24 0x123401) (fun s => { s with b := 0x12#8, c := 0x34#8, pc := 0x0103#16 }) = true
    ∧ endsIn (State.reset.withFetchWord 16 0xCB7C) (fun s => { s with f := 0xA0#8, pc := 0x0102#16 }) = true := by decide

/-- From reset with nothing loaded, the first fetch is unmapped (log 4). -/
theorem test_bare_reset : stopsAt State.reset 0x0100#16 = true := by decide

/-! ## Witnesses: for each statement, states and operands that meet its hypotheses -/

/-- HL = 0x8000, mapped, holding 0x5A. -/
def mapped : State := withRam { vec .full 0x0200#16 [] with a := 0x12#8, h := 0x80#8, l := 0x00#8 } [(0, 0x5A#8)] [] []

/-- HL = 0xA000, unmapped. -/
def unmapped : State := { vec .full 0x0200#16 [] with h := 0xA0#8, l := 0x00#8 }

/-- The overlay on, HL = 0x0001: the boot byte there is 0x22, the cartridge byte under it 0x33. -/
def hidden : State :=
  let s := vec .full 0x0001#16 [0x33#8]
  { s with l := 0x01#8, mem := { s.mem with bootOverlayActive := true, boot := [0x11#8, 0x22#8] } }

theorem test_witness_DecodeOfEncode : (Instr.callCNn 0xFFFF#16).wellFormed = true ∧ Instr.set7A.wellFormed = true := by
  decide

theorem test_witness_EncodeOfDecode : decode [0xDC#8, 0xFF#8, 0x80#8, 0x00#8] = .ok (.callCNn 0x80FF#16, [0x00#8]) := rfl

theorem test_witness_StepRunsDecodedInstruction :
    (vec .doc 0x0200#16 [0x01#8, 0x34#8, 0x12#8]).status = .running
    ∧ decode [0x01#8, 0x34#8, 0x12#8] = .ok (.ldBcNn 0x1234#16, [])
    ∧ (Instr.ldBcNn 0x1234#16).implemented (vec .doc 0x0200#16 [0x01#8, 0x34#8, 0x12#8]).params.impl = true
    ∧ ∀ k v, [0x01#8, 0x34#8, 0x12#8][k]? = some v →
      (vec .doc 0x0200#16 [0x01#8, 0x34#8, 0x12#8]).mem.readByte
        ((vec .doc 0x0200#16 [0x01#8, 0x34#8, 0x12#8]).pc + BitVec.ofNat 16 k) = some v := by
  refine ⟨rfl, rfl, rfl, fun k v h => ?_⟩
  match k, h with
  | 0, h => cases h; decide
  | 1, h => cases h; decide
  | 2, h => cases h; decide

theorem test_witness_UnimplementedOpcodeState :
    ((vec .doc 0x0200#16 [0x87#8]).status = .running ∧ (vec .doc 0x0200#16 [0x87#8]).mem.readByte 0x0200#16 = some 0x87#8
      ∧ implBase .doc 0x87#8 = false)
    ∧ ((vec .doc 0x0200#16 [0xCB#8, 0x00#8]).mem.readByte 0x0200#16 = some 0xCB#8
      ∧ (vec .doc 0x0200#16 [0xCB#8, 0x00#8]).mem.readByte 0x0201#16 = some 0x00#8 ∧ implExt .doc 0x00#8 = false) := by
  decide

theorem test_witness_UnmappedFetchFaults :
    (vec .doc 0xC000#16 []).mem.readByte 0xC000#16 = none
    ∧ ((vec .doc 0x7FFF#16 [0xCB#8]).mem.readByte 0x7FFF#16 = some 0xCB#8
      ∧ (cartOf (vec .doc 0x00FF#16 [0xCB#8]) 0x100).mem.readByte 0x0100#16 = none)
    ∧ ((cartOf (vec .doc 0x00FF#16 [0x18#8]) 0x100).mem.readByte 0x00FF#16 = some 0x18#8
      ∧ implBase .doc 0x18#8 = true ∧ 2 ≤ instrLength 0x18#8
      ∧ (cartOf (vec .doc 0x00FF#16 [0x18#8]) 0x100).mem.readByte 0x0100#16 = none)
    ∧ ((vec .doc 0x9FFE#16 [0x21#8, 0x44#8]).mem.readByte 0x9FFE#16 = some 0x21#8 ∧ implBase .doc 0x21#8 = true
      ∧ instrLength 0x21#8 = 3 ∧ (vec .doc 0x9FFE#16 [0x21#8, 0x44#8]).mem.readByte 0x9FFF#16 = some 0x44#8
      ∧ (vec .doc 0x9FFE#16 [0x21#8, 0x44#8]).mem.readByte 0xA000#16 = none) := by decide

theorem test_witness_FaultedCoreHasNoStep :
    ({ mapped with status := .faulted (.unmappedAddress 0xC000#16) } : State).status = .faulted (.unmappedAddress 0xC000#16) :=
  rfl

/-- A step that switches the overlay off, and one that does not. -/
theorem test_witness_OverlayLatchOnlySwitchesOff :
    (∃ t, step (booting .atStepStart 0x0100#16 [0x31#8] [0x18#8, 0xFE#8]) = .next t ∧ t.mem.bootOverlayActive = false)
    ∧ (∃ t, step (booting .atStepStart 0x0000#16 [0x18#8, 0xFE#8] []) = .next t ∧ t.mem.bootOverlayActive = true) :=
  ⟨⟨_, rfl, rfl⟩, ⟨_, rfl, rfl⟩⟩

/-- Parked at 0x00FF, the last boot byte 0x18 and the first cartridge byte past it 0xFE; `under` is the
cartridge's byte at 0x00FF. -/
def parkedAtLastBootByte (op : OverlayPoint) (under : Byte) : State :=
  let s := booting op 0x00FF#16 (List.replicate 255 0x00#8 ++ [0x18#8]) []
  { s with mem := { s.mem with cart := [(0x00FF, under), (0x0100, 0xFE#8)] } }

/-- Parked with the overlay off; at 0x0100 under either setting; at 0x00FF where the overlay does not switch. -/
theorem test_witness_ParkedStepDoesOnlyTheOverlaySwitch :
    (vec .doc 0x0108#16 [0x18#8, 0xFE#8]).parked
    ∧ (booting .atStepStart 0x0100#16 [0x31#8] [0x18#8, 0xFE#8]).parked
    ∧ (booting .afterOpcodeFetch 0x0100#16 [0x31#8] [0x18#8, 0xFE#8]).parked
    ∧ (parkedAtLastBootByte .atStepStart 0x00#8).parked
    ∧ ¬ (parkedAtLastBootByte .atStepStart 0x00#8).parkedUnderTheSwitch :=
  ⟨⟨rfl, rfl, rfl⟩, ⟨rfl, rfl, rfl⟩, ⟨rfl, rfl, rfl⟩, ⟨rfl, rfl, rfl⟩, fun h => by cases h.1⟩

/-- Parked at 0x00FF where the step's own switch takes the boot byte away: the cartridge's byte there decides. -/
theorem test_witness_ParkedStepDoesOnlyTheOverlaySwitch_at_00FF :
    ((parkedAtLastBootByte .afterOpcodeFetch 0x00#8).parked
      ∧ (parkedAtLastBootByte .afterOpcodeFetch 0x00#8).parkedUnderTheSwitch
      ∧ ¬ (parkedAtLastBootByte .afterOpcodeFetch 0x00#8).switched.parked)
    ∧ ((parkedAtLastBootByte .afterOpcodeFetch 0x18#8).parked
      ∧ (parkedAtLastBootByte .afterOpcodeFetch 0x18#8).parkedUnderTheSwitch
      ∧ (parkedAtLastBootByte .afterOpcodeFetch 0x18#8).switched.parked) :=
  ⟨⟨⟨rfl, rfl, rfl⟩, ⟨rfl, rfl, rfl⟩, fun h => absurd h.2.1 (by decide)⟩,
    ⟨rfl, rfl, rfl⟩, ⟨rfl, rfl, rfl⟩, ⟨rfl, rfl, rfl⟩⟩

/-- The router at the ends of its ranges (spec/20_memory.md R61): each clause answers its own. -/
theorem test_witness_ReadByteRouting :
    hidden.mem.readByte 0x0000#16 = some 0x11#8 ∧ hidden.mem.readByte 0x00FF#16 = none
    ∧ hidden.mem.readByte 0x0100#16 = some 0x00#8 ∧ mapped.mem.readByte 0x7FFF#16 = some 0x00#8
    ∧ mapped.mem.readByte 0x8000#16 = some 0x5A#8 ∧ mapped.mem.readByte 0x9FFF#16 = some 0x00#8
    ∧ mapped.mem.readByte 0xA000#16 = none ∧ mapped.mem.readByte 0xFEFF#16 = none
    ∧ mapped.mem.readByte 0xFF00#16 = some 0x00#8 ∧ mapped.mem.readByte 0xFF7F#16 = some 0x00#8
    ∧ mapped.mem.readByte 0xFF80#16 = some 0x00#8 ∧ mapped.mem.readByte 0xFFFE#16 = some 0x00#8
    ∧ mapped.mem.readByte 0xFFFF#16 = none := by decide

/-- The ends of the writable ranges, the overlay hiding the byte written, and the first addresses past them. -/
theorem test_witness_WriteByteChangesOneByte :
    ((0x7FFF#16 : Word).toNat ≤ 0x7FFF ∧ (0x7FFF#16 : Word).toNat < mapped.mem.cartLen)
    ∧ (0x8000 ≤ (0x9FFF#16 : Word).toNat ∧ (0x9FFF#16 : Word).toNat ≤ 0x9FFF)
    ∧ (0xFF00 ≤ (0xFF7F#16 : Word).toNat ∧ (0xFF7F#16 : Word).toNat ≤ 0xFF7F)
    ∧ (0xFF80 ≤ (0xFFFE#16 : Word).toNat ∧ (0xFFFE#16 : Word).toNat ≤ 0xFFFE)
    ∧ (hidden.mem.bootOverlayActive = true ∧ (0x00FF#16 : Word).toNat ≤ 0x00FF
      ∧ (0x00FF#16 : Word).toNat < hidden.mem.cartLen)
    ∧ mapped.mem.writeByte 0xA000#16 0x77#8 = none ∧ mapped.mem.writeByte 0xFFFF#16 0x77#8 = none
    ∧ (cartOf mapped 0x100).mem.writeByte 0x0100#16 0x77#8 = none := by decide

theorem test_witness_UnmappedAccessFaults :
    (0xA000 ≤ (0xA000#16 : Word).toNat ∧ (0xA000#16 : Word).toNat ≤ 0xFEFF)
    ∧ (0xA000 ≤ (0xFEFF#16 : Word).toNat ∧ (0xFEFF#16 : Word).toNat ≤ 0xFEFF) ∧ (0xFFFF#16 : Word).toNat = 0xFFFF
    ∧ ((0x0100#16 : Word).toNat ≤ 0x7FFF ∧ (cartOf hidden 0x100).mem.cartLen ≤ (0x0100#16 : Word).toNat
      ∧ 0x00FF < (0x0100#16 : Word).toNat)
    ∧ (hidden.mem.bootOverlayActive = true ∧ (0x0002#16 : Word).toNat ≤ 0x00FF
      ∧ hidden.mem.boot.length ≤ (0x0002#16 : Word).toNat) := by decide

theorem test_witness_WordAccessLittleEndian :
    (mapped.mem.readByte 0x8000#16 = some 0x5A#8 ∧ mapped.mem.readByte (0x8000#16 + 1#16) = some 0x00#8)
    ∧ mapped.mem.readByte 0xFFFF#16 = none
    ∧ (mapped.mem.readByte 0x9FFF#16 = some 0x00#8 ∧ mapped.mem.readByte (0x9FFF#16 + 1#16) = none)
    ∧ (mapped.mem.under 0x7FFF#16 ≠ none ∧ mapped.mem.under (0x7FFF#16 + 1#16) ≠ none)
    ∧ mapped.mem.under 0xFEFF#16 = none
    ∧ (mapped.mem.under 0xFFFE#16 ≠ none ∧ mapped.mem.under (0xFFFE#16 + 1#16) = none) := by decide

theorem test_witness_FlagWriteChangesOneBit : (Flag.n ≠ Flag.z) ∧ Flag.c ≠ Flag.h := by decide

theorem test_witness_InspectionReadsThroughTheRouter :
    hidden.mem.readByte 0x0001#16 = some 0x22#8 ∧ hidden.mem.readByte 0xC000#16 = none := by decide

theorem test_witness_LoadImmediate : PairSp.hl ≠ .sp := by decide

theorem test_witness_LoadThroughHl :
    (mapped.mem.readByte mapped.hl = some 0x5A#8 ∧ mapped.mem.under mapped.hl ≠ none)
    ∧ (unmapped.mem.readByte unmapped.hl = none ∧ unmapped.mem.under unmapped.hl = none) := by decide

theorem test_witness_LoadAndStepHl :
    (mapped.mem.under mapped.hl ≠ none ∧ mapped.mem.readByte mapped.hl = some 0x5A#8)
    ∧ (unmapped.mem.under unmapped.hl = none ∧ unmapped.mem.readByte unmapped.hl = none) := by decide

theorem test_witness_LoadAFromAddress :
    (Instr.ldAAtNn 0x8000#16, 0x8000#16) ∈ [(Instr.ldAAtBc, mapped.bc), (Instr.ldAAtDe, mapped.de),
        (Instr.ldAAtNn 0x8000#16, 0x8000#16), (Instr.ldhAAtN 0xFF#8, BitVec.ofNat 16 (0xFF00 + 0xFF)),
        (Instr.ldAAtC, BitVec.ofNat 16 (0xFF00 + mapped.c.toNat))]
    ∧ mapped.mem.readByte 0x8000#16 = some 0x5A#8 ∧ mapped.mem.readByte mapped.bc = some 0x00#8
    ∧ mapped.mem.readByte (BitVec.ofNat 16 (0xFF00 + 0xFF)) = none := by decide

theorem test_witness_StoreAToAddress :
    (Instr.ldAtNnA 0x8000#16, 0x8000#16) ∈ [(Instr.ldAtBcA, mapped.bc), (Instr.ldAtDeA, mapped.de),
        (Instr.ldAtNnA 0x8000#16, 0x8000#16), (Instr.ldhAtNA 0xFF#8, BitVec.ofNat 16 (0xFF00 + 0xFF)),
        (Instr.ldAtCA, BitVec.ofNat 16 (0xFF00 + mapped.c.toNat))]
    ∧ mapped.mem.under 0x8000#16 ≠ none ∧ mapped.mem.under mapped.bc ≠ none
    ∧ mapped.mem.under (BitVec.ofNat 16 (0xFF00 + 0xFF)) = none := by decide

theorem test_witness_StoreSpWord :
    (mapped.mem.under 0x9000#16 ≠ none ∧ mapped.mem.under (0x9000#16 + 1#16) ≠ none) ∧ mapped.mem.under 0xA000#16 = none
    ∧ (mapped.mem.under 0xFFFE#16 ≠ none ∧ mapped.mem.under (0xFFFE#16 + 1#16) = none) := by decide

theorem test_witness_AluFormsAndOperandFault : unmapped.mem.readByte unmapped.hl = none := by decide

/-- The three forms of an ALU operand: a register, (HL) and an immediate. -/
theorem test_witness_XorResultAndFlags : aluValue mapped (.opnd (.reg .a)) = some 0x12#8
    ∧ aluValue mapped (.opnd .atHl) = some 0x5A#8 ∧ aluValue mapped (.imm 0xFF#8) = some 0xFF#8 := by decide
theorem test_witness_CpFlagsOnly : aluValue mapped (.opnd (.reg .a)) = some 0x12#8
    ∧ aluValue mapped (.opnd .atHl) = some 0x5A#8 ∧ aluValue mapped (.imm 0xFF#8) = some 0xFF#8 := by decide
theorem test_witness_AddAndAdcResultAndFlags : aluValue mapped (.opnd .atHl) = some 0x5A#8
    ∧ (AluOp.adc, (mapped.flag .c).toNat) ∈ [(AluOp.add, 0), (AluOp.adc, (mapped.flag .c).toNat)] := by decide
theorem test_witness_SubAndSbcResultAndFlags : aluValue mapped (.opnd .atHl) = some 0x5A#8
    ∧ (AluOp.sbc, (mapped.flag .c).toNat) ∈ [(AluOp.sub, 0), (AluOp.sbc, (mapped.flag .c).toNat)] := by decide
theorem test_witness_AndOrResultAndFlags : aluValue mapped (.opnd .atHl) = some 0x5A#8
    ∧ (AluOp.or, mapped.a ||| 0x5A#8, false)
      ∈ [(AluOp.and, mapped.a &&& 0x5A#8, true), (AluOp.or, mapped.a ||| 0x5A#8, false)] := by decide

/-- (HL) readable and writable; readable but not writable (the overlay over a short cartridge); unmapped. -/
theorem test_witness_IncDecAtHl :
    (mapped.mem.readByte mapped.hl = some 0x5A#8 ∧ mapped.mem.under mapped.hl ≠ none)
    ∧ ((cartOf hidden 1).mem.readByte hidden.hl = some 0x22#8 ∧ (cartOf hidden 1).mem.under hidden.hl = none)
    ∧ unmapped.mem.readByte unmapped.hl = none := by decide

theorem test_witness_CplScfCcf :
    (Instr.ccf, !mapped.flag .c) ∈ [(Instr.scf, true), (Instr.ccf, !mapped.flag .c)] := by decide

theorem test_witness_IncPairFlagsByParameter : PairSp.bc ≠ .sp ∧ mapped.params.inc16Flags = .doc
    ∧ ({ mapped with params := { mapped.params with inc16Flags := .none } } : State).params.inc16Flags = .none := by decide

theorem test_witness_IncSpAndDecPairWriteNoFlag : PairSp.de ≠ .sp := by decide

theorem test_witness_AccumulatorRotates :
    (Instr.rra, mapped.a.toNat / 2 + 0x80 * (mapped.flag .c).toNat, mapped.a.getLsbD 0)
      ∈ [(Instr.rlca, (2 * mapped.a.toNat + mapped.a.toNat / 0x80) % 0x100, mapped.a.getLsbD 7),
        (Instr.rrca, mapped.a.toNat / 2 + 0x80 * (mapped.a.toNat % 2), mapped.a.getLsbD 0),
        (Instr.rla, (2 * mapped.a.toNat + (mapped.flag .c).toNat) % 0x100, mapped.a.getLsbD 7),
        (Instr.rra, mapped.a.toNat / 2 + 0x80 * (mapped.flag .c).toNat, mapped.a.getLsbD 0)] := by decide

theorem test_witness_BitTestFlags : operandValue mapped (.reg .h) = some 0x80#8 ∧ operandValue mapped .atHl = some 0x5A#8
    ∧ operandValue unmapped .atHl = none := by decide

theorem test_witness_RotateLeftThroughCarry :
    (operandValue mapped (.reg .a) = some 0x12#8 ∧ operandWritable mapped (.reg .a))
    ∧ (operandValue mapped .atHl = some 0x5A#8 ∧ operandWritable mapped .atHl) ∧ operandValue unmapped .atHl = none
    ∧ ¬operandWritable (cartOf hidden 1) .atHl :=
  by unfold operandWritable; decide

theorem test_witness_ExtendedShifts : ShiftOp.sra ≠ .rl ∧ operandValue mapped .atHl = some 0x5A#8
    ∧ operandWritable mapped .atHl
    ∧ (ShiftOp.sra, 0x2D, false) ∈ [(ShiftOp.rlc, (2 * 0x5A + 0x5A / 0x80) % 0x100, (0x5A#8).getLsbD 7),
        (.rrc, 0x5A / 2 + 0x80 * (0x5A % 2), (0x5A#8).getLsbD 0),
        (.rr, 0x5A / 2 + 0x80 * (mapped.flag .c).toNat, (0x5A#8).getLsbD 0),
        (.sla, 2 * 0x5A % 0x100, (0x5A#8).getLsbD 7), (.sra, 0x5A / 2 + 0x80 * (0x5A / 0x80), (0x5A#8).getLsbD 0),
        (.swap, 0x10 * (0x5A % 0x10) + 0x5A / 0x10, false), (.srl, 0x5A / 2, (0x5A#8).getLsbD 0)]
    ∧ operandValue unmapped .atHl = none :=
  by unfold operandWritable; decide

theorem test_witness_ResetAndSetBit :
    (Instr.ofSet 7 .atHl, true) ∈ [(Instr.ofRes 7 .atHl, false), (Instr.ofSet 7 .atHl, true)]
    ∧ operandValue mapped .atHl = some 0x5A#8 ∧ operandWritable mapped .atHl ∧ operandValue unmapped .atHl = none :=
  by unfold operandWritable; decide

theorem test_witness_LeadInRunsExtendedRow :
    (implExt mapped.params.impl 0xC6#8 = true ∧ mapped.mem.readByte mapped.hl ≠ none ∧ mapped.mem.under mapped.hl ≠ none)
    ∧ (implExt unmapped.params.impl 0xC7#8 = true ∧ (0xC7#8 : Byte).toNat % 8 ≠ 6)
    ∧ implExt (vec .doc 0x0200#16 []).params.impl 0x00#8 = false := by decide

/-- The stack pointer of the call and push witnesses: the two bytes below it mapped; the first unmapped;
the second unmapped. -/
def stacked (sp : Word) : State := { mapped with sp := sp }

theorem test_witness_CallsPushTheReturnAddress :
    mapped.cond .c = false ∧ mapped.cond .nz = true
    ∧ ((stacked 0x8001#16).mem.under (0x8001#16 - 1#16) ≠ none ∧ (stacked 0x8001#16).mem.under (0x8001#16 - 2#16) ≠ none)
    ∧ (stacked 0xFF00#16).mem.under (0xFF00#16 - 1#16) = none
    ∧ ((stacked 0xFF01#16).mem.under (0xFF01#16 - 1#16) ≠ none ∧ (stacked 0xFF01#16).mem.under (0xFF01#16 - 2#16) = none) := by
  decide

theorem test_witness_ReturnsPopTheAddress :
    mapped.cond .z = false ∧ mapped.cond .nc = true
    ∧ ((stacked 0xFFFC#16).mem.readByte 0xFFFC#16 = some 0x00#8
      ∧ (stacked 0xFFFC#16).mem.readByte (0xFFFC#16 + 1#16) = some 0x00#8)
    ∧ (stacked 0xFFFF#16).mem.readByte 0xFFFF#16 = none
    ∧ ((stacked 0xFFFE#16).mem.readByte 0xFFFE#16 = some 0x00#8
      ∧ (stacked 0xFFFE#16).mem.readByte (0xFFFE#16 + 1#16) = none) := by decide

theorem test_witness_ReturnUndoesCall :
    (mapped.mem.under (mapped.sp - 1#16) ≠ none ∧ mapped.mem.under (mapped.sp - 2#16) ≠ none
      ∧ mapped.mem.bootOverlayActive = false)
    ∧ (hidden.mem.under (hidden.sp - 1#16) ≠ none ∧ hidden.mem.under (hidden.sp - 2#16) ≠ none
      ∧ 0x00FF < (hidden.sp - 1#16).toNat ∧ 0x00FF < (hidden.sp - 2#16).toNat) := by decide

theorem test_witness_PushPair :
    ((stacked 0xFF81#16).mem.under (0xFF81#16 - 1#16) ≠ none ∧ (stacked 0xFF81#16).mem.under (0xFF81#16 - 2#16) ≠ none)
    ∧ (stacked 0x0000#16).mem.under (0x0000#16 - 1#16) = none
    ∧ ((stacked 0xFF01#16).mem.under (0xFF01#16 - 1#16) ≠ none ∧ (stacked 0xFF01#16).mem.under (0xFF01#16 - 2#16) = none) := by
  decide

theorem test_witness_PopPair :
    ((stacked 0x7FFF#16).mem.readByte 0x7FFF#16 = some 0x00#8
      ∧ (stacked 0x7FFF#16).mem.readByte (0x7FFF#16 + 1#16) = some 0x5A#8)
    ∧ (stacked 0xC000#16).mem.readByte 0xC000#16 = none
    ∧ ((stacked 0xFFFE#16).mem.readByte 0xFFFE#16 = some 0x00#8
      ∧ (stacked 0xFFFE#16).mem.readByte (0xFFFE#16 + 1#16) = none) := by decide

theorem test_witness_PopUndoesPush : mapped.inv = true ∧ mapped.mem.under (mapped.sp - 1#16) ≠ none
    ∧ mapped.mem.under (mapped.sp - 2#16) ≠ none ∧ mapped.mem.bootOverlayActive = false := by decide

theorem test_witness_RefusedOpcodesRaise :
    (Instr.halt, 0x76#8) ∈ [(Instr.stop, 0x10#8), (Instr.halt, 0x76#8), (Instr.di, 0xF3#8)] := by decide

/-- A step that keeps the invariant, over a boot image and with data in memory. -/
theorem test_witness_StepKeepsInvariant :
    (booting .atStepStart 0x0000#16 [0x3C#8] []).inv = true ∧ mapped.inv = true
    ∧ ∃ t, step (booting .atStepStart 0x0000#16 [0x3C#8] []) = .next t ∧ t.a = 0x01#8 :=
  ⟨by decide, by decide, ⟨_, rfl, rfl⟩⟩

/-- Each clause of the reset table: an image byte, and the ends of the zero-filled regions. -/
theorem test_witness_ConstructResetValues : [0x00#8, 0x12#8][1]? = some 0x12#8
    ∧ (0x8000 ≤ (0x8000#16 : Word).toNat ∧ (0x9FFF#16 : Word).toNat ≤ 0x9FFF ∧ 0xFF00 ≤ (0xFF00#16 : Word).toNat
      ∧ (0xFFFE#16 : Word).toNat ≤ 0xFFFE) := by decide

theorem test_witness_ExecKeepsConfiguration : (∃ t, exec .halt mapped = .next t ∧ t.status ≠ mapped.status)
    ∧ ∃ t, exec .pushAf mapped = .next t ∧ t.status = mapped.status :=
  ⟨⟨_, rfl, by decide⟩, ⟨_, rfl, rfl⟩⟩

end Sys2Proof.Tests
end

section
/-! SUPPORT. Every instruction stands in a row of one of the two opcode tables, so a fact about all
instructions is shown row by row, along the fields x, y, z, p, q of spec/30_encoding.md R110. The fact
shown here: an instruction's meaning runs as `Tame` says, or raises UnimplementedOpcode
(spec/60_exceptions.md R343). -/

namespace Sys2Proof

/-- Every instruction of a base row, whatever its operand bytes, has the property. -/
def Row.All (P : Instr → Prop) : Row → Prop
  | .op i => P i
  | .opN f => ∀ n, P (f n)
  | .opNN f => ∀ nn, P (f nn)

/-- What holds of every row of both tables holds of every instruction: the bytes of its encoding name
its row, the first byte a base row (0xCB the lead-in's), the byte after 0xCB an extended one. -/
theorem Instr.of_rows {P : Instr → Prop} (base : ∀ op, (baseRow op).All P) (ext : ∀ op2, P (extRow op2))
    (i : Instr) : P i := by
  have baseOf : ∀ {op rest}, encode i = op :: rest → (baseRow op).All P := fun _ => base _
  have extOf : ∀ {op2}, encode i = [0xCB#8, op2] → P (extRow op2) := fun _ => ext _
  cases i <;> have row := baseOf rfl <;> first
    | exact row
    | exact row _
    | exact (extOf rfl :)

end Sys2Proof

namespace Sys2Proof.Machine

/-- At every state the instruction's meaning is tame, or it raises UnimplementedOpcode there. -/
def RunsOrRaises (i : Instr) : Prop :=
  ∀ s : State, Tame s (exec i s) ∨ ∃ x op a, exec i s = .next (s.raiseUnimplemented x op a)

theorem RunsOrRaises.of_tame {i : Instr} {m : State → Result} (he : exec i = m) (hm : ∀ s, Tame s (m s)) :
    RunsOrRaises i := fun s => .inl (he ▸ hm s)

theorem RunsOrRaises.of_raiseBase {i : Instr} (op : Byte) (he : exec i = raiseBase op) : RunsOrRaises i :=
  fun s => .inr ⟨false, op, s.pc - 1#16, by rw [he]; rfl⟩

/-! ## The quarter `01 yyy zzz` and the ALU quarter `10 yyy zzz` -/

theorem loadRow_runsOrRaises (y z : BitVec 3) : RunsOrRaises (loadRow y z) := by
  unfold loadRow
  split
  · exact .of_tame (exec_ofLdRR ..) fun s => copyReg_tame s ..
  · exact .of_tame (funext (exec_ofLdRHl _)) fun s => loadReg_tame s ..
  · exact .of_tame (funext (exec_ofLdHlR _)) fun s => storeReg_tame s ..
  · exact .of_raiseBase 0x76#8 rfl

theorem ofAlu_runsOrRaises (op : AluOp) (src : AluSrc) : RunsOrRaises (Instr.ofAlu op src) :=
  .of_tame (exec_ofAlu op src) fun s => aluOperand_tame s op src

/-! ## The quarter `00 yyy zzz` -/

theorem loadImmRow_runsOrRaises (y : BitVec 3) : (loadImmRow y).All RunsOrRaises := by
  unfold loadImmRow
  split
  · exact fun n => .of_tame (funext (exec_ofLdRN _ n)) fun s => setReg_tame s _ n
  · exact fun n => .of_tame rfl fun s => store_tame s s.hl n

theorem row0z0_runsOrRaises (op : Byte) : (row0z0 op).All RunsOrRaises := by
  unfold row0z0
  split
  · exact .of_tame (i := .nop) rfl fun s => tame_next (.refl s) rfl
  · exact fun nn => .of_tame (i := .ldAtNnSp nn) rfl fun _ => tame_storeWord
  · exact .of_raiseBase 0x10#8 rfl
  · exact fun e => .of_tame (i := .jrE e) rfl fun s => jumpRelative_tame s e
  · exact fun e => .of_tame (exec_ofJr _ e) fun s => jumpRelativeIf_tame s _ e

theorem row0z2_runsOrRaises (op : Byte) : RunsOrRaises (row0z2 op) := by
  unfold row0z2
  split
  · exact .of_tame rfl fun s => storeReg_tame s s.bc .a
  · exact .of_tame rfl fun s => loadReg_tame s s.bc .a
  · exact .of_tame rfl fun s => storeReg_tame s s.de .a
  · exact .of_tame rfl fun s => loadReg_tame s s.de .a
  · exact .of_tame rfl fun s => storeAStep_tame s 1#16
  · exact .of_tame rfl fun s => loadAStep_tame s 1#16
  · exact .of_tame rfl fun s => storeAStep_tame s (-1#16)
  · exact .of_tame rfl fun s => loadAStep_tame s (-1#16)

theorem row0z7_runsOrRaises (op : Byte) : RunsOrRaises (row0z7 op) := by
  unfold row0z7
  split
  · exact .of_tame rfl fun s => rotateA_tame s .rlc
  · exact .of_tame rfl fun s => rotateA_tame s .rrc
  · exact .of_tame rfl fun s => rotateA_tame s .rl
  · exact .of_tame rfl fun s => rotateA_tame s .rr
  · exact .of_tame rfl decimalAdjust_tame
  · exact .of_tame rfl complementA_tame
  · exact .of_tame rfl setCarry_tame
  · exact .of_tame rfl complementCarry_tame

/-- INC SP has a meaning of its own (R221); the other three are `incPair` (R220). -/
theorem ofIncPair_runsOrRaises (p : PairSp) : RunsOrRaises (Instr.ofIncPair p) := by
  by_cases hp : p = .sp
  · subst hp
    exact .of_tame (i := .incSp) rfl fun s => tame_regs s rfl rfl rfl id
  · exact .of_tame (exec_ofIncPair p hp) fun s => incPair_tame s p

theorem rowQuarter0_runsOrRaises (op : Byte) : (rowQuarter0 op).All RunsOrRaises := by
  unfold rowQuarter0
  split
  · exact row0z0_runsOrRaises op
  · split
    · exact .of_tame (exec_ofAddHl _) fun s => addToHl_tame s _
    · exact fun nn => .of_tame (exec_ofLdPair _ nn) fun s => loadPairImm_tame s _ nn
  · exact row0z2_runsOrRaises op
  · split
    · exact .of_tame (exec_ofDecPair _) fun s => decPair_tame s _
    · exact ofIncPair_runsOrRaises _
  · exact .of_tame (exec_ofInc _) fun s => incOperand_tame s _
  · exact .of_tame (exec_ofDec _) fun s => decOperand_tame s _
  · exact loadImmRow_runsOrRaises _
  · exact row0z7_runsOrRaises op

/-! ## The quarter `11 yyy zzz` -/

theorem row3z0_runsOrRaises (op : Byte) : (row3z0 op).All RunsOrRaises := by
  unfold row3z0
  split
  · exact fun n => .of_tame rfl fun s => storeReg_tame s (highPage n) .a
  · exact fun e => .of_tame rfl fun s => addSpOffset_tame s e
  · exact fun n => .of_tame rfl fun s => loadReg_tame s (highPage n) .a
  · exact fun e => .of_tame rfl fun s => loadHlSpOffset_tame s e
  · exact .of_tame (exec_ofRet _) fun s => returnIf_tame s _

theorem row3z1_runsOrRaises (op : Byte) : RunsOrRaises (row3z1 op) := by
  unfold row3z1
  split
  · exact .of_tame rfl ret_tame
  · exact .of_raiseBase 0xD9#8 rfl
  · exact .of_tame rfl fun s => setPc_tame s s.hl
  · exact .of_tame rfl fun s => tame_regs s rfl rfl rfl id
  · exact .of_tame (exec_ofPop _) fun s => popPair_tame s _

theorem row3z2_runsOrRaises (op : Byte) : (row3z2 op).All RunsOrRaises := by
  unfold row3z2
  split
  · exact .of_tame rfl fun s => storeReg_tame s (highPage s.c) .a
  · exact fun nn => .of_tame rfl fun s => storeReg_tame s nn .a
  · exact .of_tame rfl fun s => loadReg_tame s (highPage s.c) .a
  · exact fun nn => .of_tame rfl fun s => loadReg_tame s nn .a
  · exact fun nn => .of_tame (exec_ofJp _ nn) fun s => jumpIf_tame s _ nn

/-- The lead-in runs the extended rule of its second byte or raises (R103). -/
theorem cbPrefix_runsOrRaises (b : Byte) : RunsOrRaises (.cbPrefix b) := by
  intro s
  change Tame s (execCbPrefix b s) ∨ ∃ x op a, execCbPrefix b s = .next (s.raiseUnimplemented x op a)
  unfold execCbPrefix
  split
  · exact .inl (extOperation_tame s b)
  · exact .inr ⟨_, _, _, rfl⟩

theorem row3z3_runsOrRaises (op : Byte) : (row3z3 op).All RunsOrRaises := by
  unfold row3z3
  split
  · exact fun nn => .of_tame rfl fun s => setPc_tame s nn
  · exact cbPrefix_runsOrRaises
  · exact .of_raiseBase 0xD3#8 rfl
  · exact .of_raiseBase 0xDB#8 rfl
  · exact .of_raiseBase 0xE3#8 rfl
  · exact .of_raiseBase 0xEB#8 rfl
  · exact .of_raiseBase 0xF3#8 rfl
  · exact .of_raiseBase 0xFB#8 rfl

theorem row3z4_runsOrRaises (op : Byte) : (row3z4 op).All RunsOrRaises := by
  unfold row3z4
  split
  · exact .of_raiseBase 0xE4#8 rfl
  · exact .of_raiseBase 0xEC#8 rfl
  · exact .of_raiseBase 0xF4#8 rfl
  · exact .of_raiseBase 0xFC#8 rfl
  · exact fun nn => .of_tame (exec_ofCall _ nn) fun s => callIf_tame s _ nn

theorem row3z5_runsOrRaises (op : Byte) : (row3z5 op).All RunsOrRaises := by
  unfold row3z5
  split
  · exact fun nn => .of_tame rfl fun s => callTo_tame s nn
  · exact .of_raiseBase 0xDD#8 rfl
  · exact .of_raiseBase 0xED#8 rfl
  · exact .of_raiseBase 0xFD#8 rfl
  · exact .of_tame (exec_ofPush _) fun s => pushPair_tame s _

theorem rowQuarter3_runsOrRaises (op : Byte) : (rowQuarter3 op).All RunsOrRaises := by
  unfold rowQuarter3
  split
  · exact row3z0_runsOrRaises op
  · exact row3z1_runsOrRaises op
  · exact row3z2_runsOrRaises op
  · exact row3z3_runsOrRaises op
  · exact row3z4_runsOrRaises op
  · exact row3z5_runsOrRaises op
  · exact fun n => ofAlu_runsOrRaises _ (.imm n)
  · exact .of_tame (exec_ofRst _) fun s => callTo_tame s _

/-! ## The two tables, and every instruction -/

theorem baseRow_runsOrRaises (op : Byte) : (baseRow op).All RunsOrRaises := by
  unfold baseRow
  split
  · exact rowQuarter0_runsOrRaises op
  · exact loadRow_runsOrRaises (yField op) (zField op)
  · exact ofAlu_runsOrRaises _ (.opnd _)
  · exact rowQuarter3_runsOrRaises op

theorem extRow_runsOrRaises (op2 : Byte) : RunsOrRaises (extRow op2) := by
  unfold extRow
  split
  · exact .of_tame (exec_ofShift ..) fun s => shiftOperand_tame s ..
  · exact .of_tame (exec_ofBit ..) fun s => testBit_tame s ..
  · exact .of_tame (exec_ofRes ..) fun s => resetBit_tame s ..
  · exact .of_tame (exec_ofSet ..) fun s => setBit_tame s ..

/-- Everything an instruction can do, said once for all 512 constructors. -/
theorem exec_runsOrRaises (i : Instr) : RunsOrRaises i :=
  Instr.of_rows baseRow_runsOrRaises extRow_runsOrRaises i

/-- The next state of an instruction keeps what `Keeps` lists, and the run status unless the
instruction raises UnimplementedOpcode. -/
theorem exec_keeps {i : Instr} {s t : State} (h : exec i s = .next t) :
    Keeps s t ∧ (t.status = s.status ∨ ∃ x op a, t.status = .faulted (.unimplementedOpcode x op a)) := by
  rcases exec_runsOrRaises i s with (⟨t', he, hk, hs⟩ | ⟨a, he, _⟩) | ⟨x, op, a, he⟩
  · cases he.symm.trans h
    exact ⟨hk, .inl hs⟩
  · cases he.symm.trans h
  · cases he.symm.trans h
    exact ⟨raise_keeps s x op a, .inr ⟨x, op, a, rfl⟩⟩

end Sys2Proof.Machine
end

section
/-! SUPPORT. What a whole step keeps: it is the step's own overlay switch, and after it nothing that
writes the latch (spec/30_encoding.md R100; spec/20_memory.md R76); and the invariant over both. -/

namespace Sys2Proof.Machine

/-- A step that answers a next state started on a running core (R47). -/
theorem running_of_step_next {s t : State} (h : step s = .next t) : s.status = .running := by
  unfold step at h
  split at h
  · assumption
  · cases h

/-- After its own overlay switch a step keeps what every instruction keeps. -/
theorem step_keeps {s t : State} (h : step s = .next t) : Keeps s.switched t := by
  have moved (pc : Word) : Keeps s.switched (s.switched.setPc pc) := .ofMem rfl rfl id
  rw [step_running (running_of_step_next h)] at h
  rcases s.fetchInstr_cases exec with ⟨a, he⟩ | ⟨pc, x, op, he⟩ | ⟨i, pc, he⟩
  · cases he.symm.trans h
  · cases he.symm.trans h
    exact (moved pc).trans (raise_keeps _ x op s.pc)
  · exact (moved pc).trans (exec_keeps (he.symm.trans h)).1

/-! ## The invariant -/

theorem State.inv_iff (s : State) : s.inv = true ↔
    s.f &&& 0x0F#8 = 0#8 ∧ s.mem.wf = true
      ∧ (s.mem.bootOverlayActive = true → bootPresent s.mem.boot = true) := by
  simp [State.inv, and_assoc, imp_iff_not_or]

/-- What keeps the latch, the boot image and the two canonical forms keeps the invariant. -/
theorem Keeps.inv {s t : State} (h : Keeps s t) (hs : s.inv = true) : t.inv = true := by
  obtain ⟨hlow, hwf, hboot⟩ := s.inv_iff.1 hs
  exact t.inv_iff.2 ⟨h.low hlow, h.wf hwf, by rw [h.overlay, h.boot]; exact hboot⟩

/-- Switching the overlay off keeps the invariant: no boot image is needed any more (R44). -/
theorem State.disableBootOverlay_inv {s : State} (hs : s.inv = true) : s.disableBootOverlay.inv = true := by
  obtain ⟨hlow, hwf, _⟩ := s.inv_iff.1 hs
  exact (State.inv_iff _).2 ⟨hlow, hwf, fun h => by cases h⟩

theorem State.switched_inv {s : State} (hs : s.inv = true) : s.switched.inv = true := by
  unfold State.switched
  split
  · exact State.disableBootOverlay_inv hs
  · exact hs

end Sys2Proof.Machine
end

section
/-! The statements of the family 10_state.md. -/

namespace Sys2Proof.Machine

/-- A pair's view is the high half times 256 plus the low half (R31). -/
theorem word_toNat (hi lo : Byte) : (word hi lo).toNat = 256 * hi.toNat + lo.toNat := by
  have hlo := lo.isLt
  rw [word, BitVec.toNat_append, Nat.shiftLeft_eq, Nat.mul_comm, ← Nat.two_pow_add_eq_or_of_lt hlo]

/-- Settles O56: the step's own switch keeps the invariant, and so does what follows it. -/
theorem stepKeepsInvariant : Obligations.StepKeepsInvariant :=
  fun _ _ hs h => (step_keeps h).inv (State.switched_inv hs)

/-- Settles O9: the switch alone moves the latch. -/
theorem overlayLatchOnlySwitchesOff : Obligations.OverlayLatchOnlySwitchesOff :=
  fun s _ h => (step_keeps h).overlay.trans s.switched_overlay

/-- Settles O15, by the laws of the flag updater. -/
theorem flagWriteChangesOneBit : Obligations.FlagWriteChangesOneBit := by
  intro f k x
  refine ⟨?_, fun j hj => ?_, putFlag_reserved f k x, rfl⟩
  · rw [getFlag_putFlag, if_pos rfl]
  · rw [getFlag_putFlag, if_neg hj]

/-- Settles O16: a pair splits into its halves and is put together from them again. -/
theorem pairViewsShareTheHalves : Obligations.PairViewsShareTheHalves :=
  fun _ v => ⟨word_toNat .., word_toNat .., word_toNat .., word_toNat ..,
    word_hiByte_loByte v, rfl, word_hiByte_loByte v, rfl, word_hiByte_loByte v, rfl⟩

/-- Settles O60: the four kept fields of an instruction's next state, and its run status. -/
theorem execKeepsConfiguration : Obligations.ExecKeepsConfiguration := by
  intro i s t h
  obtain ⟨hk, hstatus⟩ := exec_keeps h
  exact ⟨hk.overlay, hk.boot, hk.cartLen, hk.params, hstatus⟩

end Sys2Proof.Machine
end

section
/-! The statements of the family 20_memory.md. First the byte under each range of addresses, and when
the overlay answers in its place (R61, R62). -/

namespace Sys2Proof.Machine

/-! ## The byte under each range of addresses -/

section
variable {m : Memory} {a : Word}

theorem Memory.under_cart (ha : a.toNat ≤ 0x7FFF) :
    m.under a = if a.toNat < m.cartLen then some (cellsGet m.cart a.toNat) else none := by
  unfold Memory.under Memory.route
  rw [if_pos ha]
  split <;> rfl

theorem Memory.under_vram (hlo : 0x8000 ≤ a.toNat) (hhi : a.toNat ≤ 0x9FFF) :
    m.under a = some (cellsGet m.vram (a.toNat - 0x8000)) := by
  unfold Memory.under Memory.route
  rw [if_neg (by omega), if_pos hhi]
  rfl

theorem Memory.under_io (hlo : 0xFF00 ≤ a.toNat) (hhi : a.toNat ≤ 0xFF7F) :
    m.under a = some (cellsGet m.io (a.toNat - 0xFF00)) := by
  unfold Memory.under Memory.route
  rw [if_neg (by omega), if_neg (by omega), if_neg (by omega), if_pos hhi]
  rfl

theorem Memory.under_hram (hlo : 0xFF80 ≤ a.toNat) (hhi : a.toNat ≤ 0xFFFE) :
    m.under a = some (cellsGet m.hram (a.toNat - 0xFF80)) := by
  unfold Memory.under Memory.route
  rw [if_neg (by omega), if_neg (by omega), if_neg (by omega), if_neg (by omega), if_pos hhi]
  rfl

/-- No region lies at 0xA000 to 0xFEFF or at 0xFFFF (R66). -/
theorem Memory.under_unmapped (ha : (0xA000 ≤ a.toNat ∧ a.toNat ≤ 0xFEFF) ∨ a.toNat = 0xFFFF) :
    m.under a = none := by
  unfold Memory.under Memory.route
  rw [if_neg (by omega), if_neg (by omega)]
  rcases ha with ⟨_, hhi⟩ | htop
  · rw [if_pos (by omega)]
    rfl
  · rw [if_neg (by omega), if_neg (by omega), if_neg (by omega)]
    rfl

/-- The cartridge ends at its length (R67, D6). -/
theorem Memory.under_pastCart (ha : a.toNat ≤ 0x7FFF) (hlen : m.cartLen ≤ a.toNat) : m.under a = none := by
  rw [Memory.under_cart ha, if_neg (by omega)]

/-- A read under the active overlay answers from the boot image alone (R61). -/
theorem Memory.readByte_boot (h : m.bootOverlayActive = true ∧ a.toNat ≤ 0x00FF) :
    m.readByte a = m.boot[a.toNat]? := by
  simp [Memory.readByte, h]

/-- A read that the overlay does not answer is the router's (R61). -/
theorem Memory.readByte_under (h : ¬(m.bootOverlayActive = true ∧ a.toNat ≤ 0x00FF)) :
    m.readByte a = m.under a := by
  rw [Memory.readByte, if_neg (by simpa using h)]

end

/-- The addresses that a write reaches (R62). -/
def Memory.Mapped (m : Memory) (a : Word) : Prop :=
  (a.toNat ≤ 0x7FFF ∧ a.toNat < m.cartLen) ∨ (0x8000 ≤ a.toNat ∧ a.toNat ≤ 0x9FFF)
    ∨ (0xFF00 ≤ a.toNat ∧ a.toNat ≤ 0xFFFE)

theorem Memory.under_ne_none_of_mapped {m : Memory} {a : Word} (h : m.Mapped a) : m.under a ≠ none := by
  rcases h with ⟨hcart, hlen⟩ | ⟨hlo, hhi⟩ | ⟨hlo, hhi⟩
  · simp [Memory.under_cart hcart, hlen]
  · simp [Memory.under_vram hlo hhi]
  · rcases Nat.lt_or_ge a.toNat 0xFF80 with hio | hhram
    · simp [Memory.under_io hlo (by omega)]
    · simp [Memory.under_hram hhram hhi]

theorem Memory.under_none_of_not_mapped {m : Memory} {a : Word} (h : ¬m.Mapped a) : m.under a = none := by
  have := a.isLt
  unfold Memory.Mapped at h
  by_cases hcart : a.toNat ≤ 0x7FFF
  · exact Memory.under_pastCart hcart (by omega)
  · exact Memory.under_unmapped (by omega)

/-! ## Calls -/

/-- Everything a call can do (R83, R283). -/
theorem callTo_spec (s : State) (target : Word) :
    (s.mem.under (s.sp - 1#16) ≠ none → s.mem.under (s.sp - 2#16) ≠ none →
      ∃ t, callTo target s = .next t ∧ t.pc = target ∧ t.sp = s.sp - 2#16
        ∧ t.mem.under (s.sp - 1#16) = some (hiByte s.pc) ∧ t.mem.under (s.sp - 2#16) = some (loByte s.pc)
        ∧ Frame s t [] [] [s.sp - 1#16, s.sp - 2#16])
    ∧ (s.mem.under (s.sp - 1#16) = none → callTo target s = .fault (.unmappedAddress (s.sp - 1#16)))
    ∧ (s.mem.under (s.sp - 1#16) ≠ none → s.mem.under (s.sp - 2#16) = none →
      callTo target s = .fault (.unmappedAddress (s.sp - 2#16))) := by
  obtain ⟨both, first, second⟩ := s.push16_spec s.pc
  refine ⟨fun ha hb => ?_, fun ha => first ha _, fun ha hb => second ha hb _⟩
  obtain ⟨m, hm, hpush⟩ := both ha hb
  exact ⟨_, hpush _, rfl, rfl, hm.writtenA, hm.writtenB,
    Frame.ofStored2 (fun r _ => by cases r <;> rfl) (fun _ _ => rfl) rfl hm rfl rfl⟩

theorem callNn_row (nn : Word) :
    RowIs (.callNn nn) [0xCD#8, nn.extractLsb' 0 8, nn.extractLsb' 8 8] .doc := ⟨rfl, rfl, rfl⟩

theorem ofCall_row (cc : Cond) (nn : Word) :
    RowIs (Instr.ofCall cc nn) [opcodeByte 3 cc.code 4, nn.extractLsb' 0 8, nn.extractLsb' 8 8] .doc := by
  cases cc <;> exact ⟨rfl, rfl, rfl⟩

theorem ofRst_row (y : Fin 8) : RowIs (Instr.ofRst y) [opcodeByte 3 y.val 7] .full := by
  fin_cases y <;> exact ⟨rfl, rfl, rfl⟩

theorem callIf_true {cc : Cond} {s : State} (nn : Word) (h : s.cond cc = true) : callIf cc nn s = callTo nn s := by
  simp [callIf, h]

theorem callIf_false {cc : Cond} {s : State} (nn : Word) (h : s.cond cc = false) : callIf cc nn s = .next s := by
  simp [callIf, h]

/-! ## The statements -/

/-- Settles O11: the overlay's line first, then one line of the table for each range of addresses. -/
theorem readByteRouting : Obligations.ReadByteRouting := by
  intro m a
  have := a.isLt
  split_ifs with hboot hcart hlen hvram hio hhram
  · exact Memory.readByte_boot hboot
  all_goals rw [Memory.readByte_under hboot]
  · rw [Memory.under_cart hcart, if_pos hlen]
  · rw [Memory.under_cart hcart, if_neg hlen]
  · exact Memory.under_vram hvram.1 hvram.2
  · exact Memory.under_io hio.1 hio.2
  · exact Memory.under_hram hhram.1 hhram.2
  · exact Memory.under_unmapped (by omega)

/-- Settles O12: the byte written lies under its address, so in the buffer of that address's range. -/
theorem writeByteChangesOneByte : Obligations.WriteByteChangesOneByte := by
  intro m a v
  refine ⟨fun h => ?_, fun h => (Memory.writeByte_none v).2 (Memory.under_none_of_not_mapped h)⟩
  obtain ⟨w, hw⟩ := Option.ne_none_iff_exists'.1 (Memory.under_ne_none_of_mapped h)
  obtain ⟨m', hwrite⟩ := Memory.writeByte_of_under v hw
  have stored := Memory.writeByte_stored hwrite
  have held {x : Byte} (hx : m'.under a = some x) : x = v := Option.some.inj (hx.symm.trans stored.written)
  refine ⟨m', hwrite, fun hcart => held ?_, fun hlo hhi => held (Memory.under_vram hlo hhi),
    fun hlo hhi => held (Memory.under_io hlo hhi), fun hlo hhi => held (Memory.under_hram hlo hhi),
    stored.read_same, fun hboot => stored.hidden hboot.1 hboot.2,
    fun x hx => ⟨stored.read x hx, stored.under x hx⟩, stored.overlay, stored.boot, stored.cartLen⟩
  have hlen : a.toNat < m'.cartLen := by rw [stored.cartLen]; omega
  rw [Memory.under_cart hcart, if_pos hlen]

/-- Settles O13: no byte lies under the address, or the boot image ends before it. -/
theorem unmappedAccessFaults : Obligations.UnmappedAccessFaults := by
  intro s a v kl ks
  refine ⟨fun ha => ?_, fun ha hlen => ?_, fun ha hlen hoff => ?_, fun hon ha hlen => ?_⟩
  · have hunder : s.mem.under a = none := Memory.under_unmapped ha
    exact ⟨s.load_none kl ((Memory.readByte_under (by omega)).trans hunder), s.store_none v ks hunder⟩
  · exact s.store_none v ks (Memory.under_pastCart ha hlen)
  · have hread : s.mem.readByte a = s.mem.under a := Memory.readByte_under fun ⟨hon, hlow⟩ => by
      rcases hoff with hoff | hhigh
      · simp [hoff] at hon
      · omega
    exact s.load_none kl (hread.trans (Memory.under_pastCart ha hlen))
  · exact s.load_none kl ((Memory.readByte_boot ⟨hon, ha⟩).trans (List.getElem?_eq_none hlen))

/-- Settles O48: the three forms are one call, where their condition holds. -/
theorem callsPushTheReturnAddress : Obligations.CallsPushTheReturnAddress := by
  intro nn cc y
  refine ⟨callNn_row nn, ofCall_row cc nn, ofRst_row y, fun s => ⟨fun hcc => ?_, fun x hx hcond => ?_⟩⟩
  · rw [exec_ofCall, callIf_false nn hcc]
  · have hcall : exec x.1 s = callTo x.2.1 s := by
      simp only [List.mem_cons, List.not_mem_nil, or_false] at hx
      rcases hx with rfl | rfl | rfl
      · rfl
      · rw [exec_ofCall, callIf_true nn hcond]
      · rw [exec_ofRst]
    rw [hcall]
    exact callTo_spec s x.2.1

end Sys2Proof.Machine
end

section
/-! The statements of the family 30_encoding.md. Both tables agree with the encoder row by row
(`baseRow_matches`, `extRow_matches`); here the decoder is put beside them: it reads a base row's
operands or an extended row's second byte (R103, R104). -/

namespace Sys2Proof

theorem Row.All.imp {P Q : Instr → Prop} {row : Row} (h : row.All P) (hPQ : ∀ i, P i → Q i) : row.All Q := by
  cases row with
  | op i => exact hPQ i h
  | opN f => exact fun n => hPQ _ (h n)
  | opNN f => exact fun nn => hPQ _ (h nn)

/-! ## What the decoder does with a first byte -/

theorem decode_base {op : Byte} (hop : op ≠ 0xCB#8) (rest : List Byte) :
    decode (op :: rest) = decodeOperands (baseRow op) rest := if_neg hop

theorem decode_ext (op2 : Byte) (rest : List Byte) :
    decode (0xCB#8 :: op2 :: rest) = .ok (extRow op2, rest) := rfl

/-! ## Decoding what was encoded -/

/-- Every instruction of a base row but the lead-in's survives the round trip. -/
theorem baseRow_decode_encode {op : Byte} (hop : op ≠ 0xCB#8) :
    (baseRow op).All fun i => ∀ rest, decode (encode i ++ rest) = .ok (i, rest) := by
  have hbytes := baseRow_matches op hop
  have hdecode := decode_base hop
  generalize baseRow op = row at hbytes hdecode ⊢
  cases row with
  | op i => exact fun rest => by rw [hbytes.2]; exact hdecode rest
  | opN f => exact fun n rest => by rw [(hbytes n).2]; exact hdecode (n :: rest)
  | opNN f =>
    intro nn rest
    rw [(hbytes nn).2]
    calc decode (op :: loByte nn :: hiByte nn :: rest)
        = .ok (f (word (hiByte nn) (loByte nn)), rest) := hdecode _
      _ = .ok (f nn, rest) := by rw [Machine.word_hiByte_loByte]

theorem extRow_decode_encode (op2 : Byte) (rest : List Byte) :
    decode (encode (extRow op2) ++ rest) = .ok (extRow op2, rest) := by
  rw [(extRow_matches op2).2]
  exact decode_ext op2 rest

/-! ## Encoding what was decoded -/

/-- What is read from a row's operand bytes is encoded by the row's byte and the bytes consumed. -/
theorem Row.encode_of_decodeOperands {op : Byte} {row : Row} (hbytes : row.matchesByte op)
    {bs rest : List Byte} {i : Instr} (h : decodeOperands row bs = .ok (i, rest)) :
    i.wellFormed = true ∧ encode i ++ rest = op :: bs := by
  match row, bs with
  | .op i, rest =>
    cases h
    exact ⟨hbytes.1, by rw [hbytes.2]; rfl⟩
  | .opN f, n :: rest =>
    cases h
    obtain ⟨hwf, henc⟩ := hbytes n
    exact ⟨hwf, by rw [henc]; rfl⟩
  | .opNN f, lo :: hi :: rest =>
    cases h
    obtain ⟨hwf, henc⟩ := hbytes (word hi lo)
    exact ⟨hwf, by rw [henc, Machine.hiByte_word, Machine.loByte_word]; rfl⟩
  | .opN _, [] | .opNN _, [] | .opNN _, [_] => cases h

/-! ## The length of an instruction (R111) -/

/-- With two bytes after the first, the decoder answers and drops as many bytes as the first says. -/
theorem decode_drops_instrLength (op b1 b2 : Byte) (rest : List Byte) :
    ∃ i, decode (op :: b1 :: b2 :: rest) = .ok (i, (op :: b1 :: b2 :: rest).drop (instrLength op)) := by
  by_cases hop : op = 0xCB#8
  · subst hop
    exact ⟨extRow b1, rfl⟩
  · rw [decode_base hop, instrLength, if_neg hop]
    cases baseRow op with
    | op i => exact ⟨i, rfl⟩
    | opN f => exact ⟨f b1, rfl⟩
    | opNN f => exact ⟨f (word b2 b1), rfl⟩

/-- The first bytes of format OP_NN (R111). -/
def threeByteOpcodes : List Byte :=
  [0x01#8, 0x11#8, 0x21#8, 0x31#8, 0x08#8, 0xC3#8, 0xC2#8, 0xCA#8, 0xD2#8, 0xDA#8, 0xCD#8, 0xC4#8, 0xCC#8,
    0xD4#8, 0xDC#8, 0xEA#8, 0xFA#8]

/-- The first bytes of formats OP_N and OP_E, and the lead-in (R111). -/
def twoByteOpcodes : List Byte :=
  [0x06#8, 0x0E#8, 0x16#8, 0x1E#8, 0x26#8, 0x2E#8, 0x36#8, 0x3E#8, 0x18#8, 0x20#8, 0x28#8, 0x30#8, 0x38#8,
    0xC6#8, 0xCE#8, 0xD6#8, 0xDE#8, 0xE6#8, 0xEE#8, 0xF6#8, 0xFE#8, 0xE0#8, 0xF0#8, 0xE8#8, 0xF8#8, 0xCB#8]

/-- The base table's row formats give the lengths that R111 lists. -/
theorem instrLength_eq (op : Byte) :
    instrLength op = if op ∈ threeByteOpcodes then 3 else if op ∈ twoByteOpcodes then 2 else 1 := by
  revert op
  apply byte_cases
  intro n
  fin_cases n <;> rfl

/-! ## The statements -/

/-- Settles O2: row by row over both tables; the lead-in's own row is the ill-formed one (R103). -/
theorem decodeOfEncode : Obligations.DecodeOfEncode := by
  intro i rest
  refine Instr.of_rows (P := fun i => i.wellFormed = true → decode (encode i ++ rest) = .ok (i, rest))
    (fun op => ?_) (fun op2 _ => extRow_decode_encode op2 rest) i
  by_cases hop : op = 0xCB#8
  · subst hop
    exact fun _ hwf => by cases hwf
  · exact (baseRow_decode_encode hop).imp fun _ h _ => h rest

/-- Settles O3: an extended row's two bytes, or a base row's byte and operands. -/
theorem encodeOfDecode : Obligations.EncodeOfDecode := by
  intro bs i rest h
  match bs with
  | [] => cases h
  | op :: bs =>
    by_cases hop : op = 0xCB#8
    · subst hop
      match bs with
      | [] => cases h
      | op2 :: _ =>
        cases h
        obtain ⟨hwf, henc⟩ := extRow_matches op2
        exact ⟨hwf, by rw [henc]; rfl⟩
    · rw [decode_base hop] at h
      exact Row.encode_of_decodeOperands (baseRow_matches op hop) h

/-- Settles O4: the decoder drops the first byte's length, and R111's lists are those lengths. -/
theorem decodeTotalWithLength : Obligations.DecodeTotalWithLength := by
  intro op b1 b2 rest
  obtain ⟨i, h⟩ := decode_drops_instrLength op b1 b2 rest
  refine ⟨i, h.trans ?_⟩
  rw [instrLength_eq]
  unfold threeByteOpcodes twoByteOpcodes
  split_ifs <;> rfl

end Sys2Proof
end

section
/-! The statements of the family 41_loads.md. First what each shared load and store can do, frame
included; a form of LD is then its row and the shared meaning it runs. -/

namespace Sys2Proof.Machine

/-! ## Writes to a register or a pair -/

theorem State.setReg_frame (s : State) (r : Reg8) (v : Byte) : Frame s (s.setReg r v) [r] [] [] :=
  .ofMem (fun _ h => by simp [(List.ne_of_not_mem_cons h).symm]) (by simp) (by simp) (by simp) (by simp) (by simp)

theorem State.setHl_hl (s : State) (v : Word) : (s.setHl v).hl = v := word_hiByte_loByte v

theorem State.setPairSp_pairSp (s : State) (p : PairSp) (v : Word) : (s.setPairSp p v).pairSp p = v := by
  cases p with
  | bc | de | hl => exact word_hiByte_loByte v
  | sp => rfl

/-- SP is a pair of its own: no other pair's write reaches it. -/
theorem State.setPairSp_sp (s : State) {p : PairSp} (v : Word) (h : p ≠ .sp) : (s.setPairSp p v).sp = s.sp := by
  cases p with
  | bc | de | hl => rfl
  | sp => exact absurd rfl h

@[simp] theorem State.setPairSp_f (s : State) (p : PairSp) (v : Word) : (s.setPairSp p v).f = s.f := by
  cases p <;> rfl
@[simp] theorem State.setPairSp_pc (s : State) (p : PairSp) (v : Word) : (s.setPairSp p v).pc = s.pc := by
  cases p <;> rfl
@[simp] theorem State.setPairSp_mem (s : State) (p : PairSp) (v : Word) : (s.setPairSp p v).mem = s.mem := by
  cases p <;> rfl
@[simp] theorem State.setPairSp_status (s : State) (p : PairSp) (v : Word) :
    (s.setPairSp p v).status = s.status := by cases p <;> rfl
@[simp] theorem State.setPairSp_params (s : State) (p : PairSp) (v : Word) :
    (s.setPairSp p v).params = s.params := by cases p <;> rfl

/-- A pair's write reaches its two halves alone (R31, R32). -/
theorem State.setPairSp_reg (s : State) {p : PairSp} (v : Word) {r : Reg8} (h : r ∉ pairSpRegs p) :
    (s.setPairSp p v).reg r = s.reg r := by
  cases p <;> simp_all [pairSpRegs, State.setPairSp]

theorem State.setPairSp_frame (s : State) (p : PairSp) (v : Word) :
    Frame s (s.setPairSp p v) (pairSpRegs p) [] [] :=
  .ofMem (fun _ h => s.setPairSp_reg v h) (by simp [State.flag]) (by simp) (by simp) (by simp) (by simp)

/-! ## Loads and stores of one byte -/

/-- Everything a load into a register can do. -/
theorem loadReg_spec (s : State) (a : Word) (r : Reg8) :
    (∀ v, s.mem.readByte a = some v → ∃ t, loadReg a r s = .next t
      ∧ t.reg r = v ∧ t.sp = s.sp ∧ t.pc = s.pc ∧ Frame s t [r] [] [])
    ∧ (s.mem.readByte a = none → loadReg a r s = .fault (.unmappedAddress a)) :=
  ⟨fun v h => ⟨s.setReg r v, s.load_some _ h, by simp, by simp, by simp, s.setReg_frame r v⟩, s.load_none _⟩

/-- Everything an instruction that only stores a byte can do. -/
theorem storeNext_spec (s : State) (a : Word) (v : Byte) :
    (s.mem.under a ≠ none → ∃ t, s.store a v .next = .next t
      ∧ t.mem.under a = some v ∧ t.sp = s.sp ∧ t.pc = s.pc ∧ Frame s t [] [] [a])
    ∧ (s.mem.under a = none → s.store a v .next = .fault (.unmappedAddress a)) := by
  refine ⟨fun h => ?_, s.store_none v _⟩
  obtain ⟨m, hm, hstore⟩ := s.store_some v h
  exact ⟨_, hstore _, hm.written, rfl, rfl, .ofStored (by simp) (by simp) rfl hm rfl rfl⟩

/-! ## Loads and stores that step HL -/

/-- Everything a store of A that steps HL can do: the byte goes to the old x[HL] (R146, R147). -/
theorem storeAStep_spec (s : State) (d : Word) :
    (s.mem.under s.hl ≠ none → ∃ t, storeAStep d s = .next t
      ∧ t.mem.under s.hl = some s.a ∧ t.hl = s.hl + d ∧ t.sp = s.sp ∧ t.pc = s.pc
      ∧ Frame s t [.h, .l] [] [s.hl])
    ∧ (s.mem.under s.hl = none → storeAStep d s = .fault (.unmappedAddress s.hl)) := by
  refine ⟨fun h => ?_, s.store_none s.a _⟩
  obtain ⟨m, hm, hstore⟩ := s.store_some s.a h
  exact ⟨_, hstore _, hm.written, State.setHl_hl .., rfl, rfl,
    .ofStored (fun r hr => by simp_all) (by simp) rfl hm rfl rfl⟩

/-- Everything a load of A that steps HL can do: the byte comes from the old x[HL] (R148, R149). -/
theorem loadAStep_spec (s : State) (d : Word) :
    (∀ v, s.mem.readByte s.hl = some v → ∃ t, loadAStep d s = .next t
      ∧ t.a = v ∧ t.hl = s.hl + d ∧ t.sp = s.sp ∧ t.pc = s.pc ∧ Frame s t [.a, .h, .l] [] [])
    ∧ (s.mem.readByte s.hl = none → loadAStep d s = .fault (.unmappedAddress s.hl)) :=
  ⟨fun v h => ⟨(s.setReg .a v).setHl (s.hl + d), s.load_some _ h, rfl, State.setHl_hl .., rfl, rfl,
    .ofMem (fun r hr => by simp_all [eq_comm]) (by simp) (by simp) rfl rfl rfl⟩, s.load_none _⟩

/-! ## The rows -/

theorem ofLdRR_row (dst src : Reg8) :
    RowIs (Instr.ofLdRR dst src) [opcodeByte 1 dst.code src.code] .doc := by
  cases dst <;> cases src <;> exact ⟨rfl, rfl, rfl⟩

theorem ofLdRN_row (r : Reg8) (n : Byte) : RowIs (Instr.ofLdRN r n) [opcodeByte 0 r.code 6, n] .doc := by
  cases r <;> exact ⟨rfl, rfl, rfl⟩

theorem ofLdPair_row (p : PairSp) (nn : Word) : RowIs (Instr.ofLdPair p nn)
    [BitVec.ofNat 8 (16 * p.code + 1), nn.extractLsb' 0 8, nn.extractLsb' 8 8] .doc := by
  cases p <;> exact ⟨rfl, rfl, rfl⟩

theorem ofLdRHl_row (r : Reg8) : RowIs (Instr.ofLdRHl r) [opcodeByte 1 r.code 6] .doc := by
  cases r <;> exact ⟨rfl, rfl, rfl⟩

theorem ofLdHlR_row (r : Reg8) : RowIs (Instr.ofLdHlR r) [opcodeByte 1 6 r.code] .doc := by
  cases r <;> exact ⟨rfl, rfl, rfl⟩

theorem ldAtHlN_row (n : Byte) : RowIs (.ldAtHlN n) [0x36#8, n] .doc := ⟨rfl, rfl, rfl⟩

/-! ## The statements -/

/-- Settles O18: a copy is a register write of the source's old value. -/
theorem loadRegisterFromRegister : Obligations.LoadRegisterFromRegister := by
  intro dst src
  refine ⟨ofLdRR_row dst src, fun s => ⟨s.setReg dst (s.reg src), ?_, by simp, by simp, by simp,
    s.setReg_frame dst _⟩⟩
  rw [exec_ofLdRR, copyReg]

/-- Settles O19: an immediate load is a write to the register or to the pair. -/
theorem loadImmediate : Obligations.LoadImmediate := by
  refine ⟨fun r n => ⟨ofLdRN_row r n, fun s => ?_⟩, fun p nn => ⟨ofLdPair_row p nn, fun s => ?_⟩⟩
  · exact ⟨s.setReg r n, exec_ofLdRN r n s, by simp, by simp, by simp, s.setReg_frame r n⟩
  · refine ⟨s.setPairSp p nn, ?_, s.setPairSp_pairSp p nn, s.setPairSp_sp nn, s.setPairSp_pc p nn,
      s.setPairSp_frame p nn⟩
    rw [exec_ofLdPair, loadPairImm]

/-- Settles O20: each form is the shared load or store at x[HL]. -/
theorem loadThroughHl : Obligations.LoadThroughHl := by
  refine ⟨fun r => ⟨ofLdRHl_row r, fun s => ?_⟩, fun r => ⟨ofLdHlR_row r, fun s => ?_⟩,
    fun n => ⟨ldAtHlN_row n, fun s => storeNext_spec s s.hl n⟩⟩
  · rw [exec_ofLdRHl]
    exact loadReg_spec s s.hl r
  · rw [exec_ofLdHlR, storeReg]
    exact storeNext_spec s s.hl (s.reg r)

/-- Settles O21: the step is by 1, or by -1, which is the subtraction of 1 modulo 2^16. -/
theorem loadAndStepHl : Obligations.LoadAndStepHl := by
  refine ⟨⟨rfl, rfl, rfl⟩, ⟨rfl, rfl, rfl⟩, ⟨rfl, rfl, rfl⟩, ⟨rfl, rfl, rfl⟩, fun s => ?_⟩
  have hdec : s.hl - 1#16 = s.hl + -1#16 := BitVec.sub_eq_add_neg ..
  simp only [List.forall_mem_cons, List.not_mem_nil, false_imp_iff, implies_true, and_true, hdec]
  exact ⟨⟨storeAStep_spec s 1#16, storeAStep_spec s (-1#16)⟩, loadAStep_spec s 1#16, loadAStep_spec s (-1#16)⟩

end Sys2Proof.Machine
end

section
/-! The statements of the family 42_alu8.md. First the shapes that an 8-bit operation's next state has:
the four flags written, or a register and the four flags, or a register and Z, N and H; then `add8` and
`sub8` in the spec's arithmetic (R180, R181). An instruction is one of the shapes at its own operands. -/

namespace Sys2Proof.Machine

/-! ## A register written, then its flags -/

/-- A frame stays one when it lets more change. -/
theorem Frame.mono {s t : State} {rs rs' : List Reg8} {ks ks' : List Flag} {as as' : List Word}
    (h : Frame s t rs ks as) (hrs : rs ⊆ rs') (hks : ks ⊆ ks') (has : as ⊆ as') : Frame s t rs' ks' as' where
  regs r hr := h.regs r fun hm => hr (hrs hm)
  flags k hk := h.flags k fun hm => hk (hks hm)
  reserved := h.reserved
  bytes a ha := h.bytes a fun hm => ha (has hm)
  under a ha := h.under a fun hm => ha (has hm)
  overlay := h.overlay
  boot := h.boot
  cartLen := h.cartLen
  status := h.status
  params := h.params

/-- The frame of a register's write and of the flags' write after it. -/
theorem Frame.reg_then_flags {s t u : State} {rs : List Reg8} {ks : List Flag}
    (h : Frame s t rs [] []) (h' : Frame t u [] ks []) : Frame s u rs ks [] :=
  (h.mono (by simp) (by simp) (by simp)).trans (h'.mono (by simp) (by simp) (by simp))

theorem State.setZNH_frame (s : State) (z n h : Bool) : Frame s (s.setZNH z n h) [] [.z, .n, .h] [] :=
  .ofMem (by simp) (fun k hk => by cases k <;> simp_all) (by simp) rfl rfl rfl

theorem State.setZNHC_frame (s : State) (z n h c : Bool) :
    Frame s (s.setZNHC z n h c) [] [.z, .n, .h, .c] [] :=
  .ofMem (by simp) (fun k hk => by cases k <;> simp_all) (by simp) rfl rfl rfl

/-- A meaning that writes all four flags and nothing else. -/
theorem next_setZNHC_spec {res : Result} {s : State} {z n h c : Bool} (hres : res = .next (s.setZNHC z n h c)) :
    ∃ t, res = .next t ∧ t.flag .z = z ∧ t.flag .n = n ∧ t.flag .h = h ∧ t.flag .c = c
      ∧ t.sp = s.sp ∧ t.pc = s.pc ∧ Frame s t [] [.z, .n, .h, .c] [] :=
  ⟨_, hres, by simp, by simp, by simp, by simp, rfl, rfl, s.setZNHC_frame z n h c⟩

/-- A meaning that writes a register and all four flags. -/
theorem next_setReg_setZNHC_spec {res : Result} {s : State} {r : Reg8} {v : Byte} {z n h c : Bool}
    (hres : res = .next ((s.setReg r v).setZNHC z n h c)) :
    ∃ t, res = .next t ∧ t.reg r = v ∧ t.flag .z = z ∧ t.flag .n = n ∧ t.flag .h = h ∧ t.flag .c = c
      ∧ t.sp = s.sp ∧ t.pc = s.pc ∧ Frame s t [r] [.z, .n, .h, .c] [] :=
  ⟨_, hres, by simp, by simp, by simp, by simp, by simp, by simp, by simp,
    (s.setReg_frame r v).reg_then_flags ((s.setReg r v).setZNHC_frame z n h c)⟩

/-- A meaning that writes a register and Z, N and H. -/
theorem next_setReg_setZNH_spec {res : Result} {s : State} {r : Reg8} {v : Byte} {z n h : Bool}
    (hres : res = .next ((s.setReg r v).setZNH z n h)) :
    ∃ t, res = .next t ∧ t.reg r = v ∧ t.flag .z = z ∧ t.flag .n = n ∧ t.flag .h = h
      ∧ t.sp = s.sp ∧ t.pc = s.pc ∧ Frame s t [r] [.z, .n, .h] [] :=
  ⟨_, hres, by simp, by simp, by simp, by simp, by simp, by simp,
    (s.setReg_frame r v).reg_then_flags ((s.setReg r v).setZNH_frame z n h)⟩

/-! ## The 8-bit sum and difference -/

theorem add8_r_toNat (a b : Byte) (cin : Bool) :
    (add8 a b cin).r.toNat = (a.toNat + b.toNat + cin.toNat) % 0x100 := BitVec.toNat_ofNat ..

theorem add8_z (a b : Byte) (cin : Bool) :
    (add8 a b cin).z = decide ((a.toNat + b.toNat + cin.toNat) % 0x100 = 0) := by
  rw [← add8_r_toNat]
  exact decide_eq_decide.2 BitVec.toNat_inj.symm

theorem sub8_r (a b : Byte) (cin : Bool) :
    (sub8 a b cin).r = BitVec.ofInt 8 ((a.toNat : Int) - b.toNat - cin.toNat) := by
  apply BitVec.eq_of_toNat_eq
  simp only [sub8, BitVec.toNat_sub, BitVec.toNat_ofNat, BitVec.toNat_ofInt]
  omega

/-- Without a borrow the difference is zero where the operands are equal. -/
theorem sub8_false_z (a b : Byte) : (sub8 a b false).z = decide (a = b) := by
  have hz : a - b - 0#8 = 0#8 ↔ a = b := by bv_omega
  exact decide_eq_decide.2 hz

/-! ## The ALU instructions -/

/-- An ALU instruction whose operand is readable is its operation on that value (R182). -/
theorem exec_ofAlu_of_value (op : AluOp) {src : AluSrc} {s : State} {v : Byte} (hv : aluValue s src = some v) :
    exec (Instr.ofAlu op src) s = .next (s.alu8 op v) := by
  rw [exec_ofAlu, aluOperand]
  exact (s.readAlu_spec src _).1 v hv

/-- ADD and ADC are one sum, with their own carry-in (R187, R188). -/
theorem State.alu8_add_or_adc (s : State) (v : Byte) {x : AluOp × Nat}
    (hx : x ∈ [(AluOp.add, 0), (AluOp.adc, (s.flag .c).toNat)]) :
    ∃ cin : Bool, x.2 = cin.toNat ∧ s.alu8 x.1 v = (s.setReg .a (add8 s.a v cin).r).setZNHC
      (add8 s.a v cin).z false (add8 s.a v cin).h (add8 s.a v cin).c := by
  simp only [List.mem_cons, List.not_mem_nil, or_false] at hx
  rcases hx with rfl | rfl
  · exact ⟨false, rfl, rfl⟩
  · exact ⟨s.flag .c, rfl, rfl⟩

/-- SUB and SBC are one difference, with their own borrow-in (R189, R190). -/
theorem State.alu8_sub_or_sbc (s : State) (v : Byte) {x : AluOp × Nat}
    (hx : x ∈ [(AluOp.sub, 0), (AluOp.sbc, (s.flag .c).toNat)]) :
    ∃ cin : Bool, x.2 = cin.toNat ∧ s.alu8 x.1 v = (s.setReg .a (sub8 s.a v cin).r).setZNHC
      (sub8 s.a v cin).z true (sub8 s.a v cin).h (sub8 s.a v cin).c := by
  simp only [List.mem_cons, List.not_mem_nil, or_false] at hx
  rcases hx with rfl | rfl
  · exact ⟨false, rfl, rfl⟩
  · exact ⟨s.flag .c, rfl, rfl⟩

/-! ## Increment and decrement of a register -/

theorem ofInc_row (r : Reg8) : RowIs (Instr.ofInc (.reg r)) [opcodeByte 0 r.code 4] .doc := by
  cases r <;> exact ⟨rfl, rfl, rfl⟩

theorem ofDec_row (r : Reg8) : RowIs (Instr.ofDec (.reg r)) [opcodeByte 0 r.code 5] .doc := by
  cases r <;> exact ⟨rfl, rfl, rfl⟩

theorem exec_ofInc_reg (r : Reg8) (s : State) : exec (Instr.ofInc (.reg r)) s =
    .next ((s.setReg r (s.reg r + 1#8)).incFlags (s.reg r)) := by
  rw [exec_ofInc]
  rfl

theorem exec_ofDec_reg (r : Reg8) (s : State) : exec (Instr.ofDec (.reg r)) s =
    .next ((s.setReg r (s.reg r - 1#8)).decFlags (s.reg r)) := by
  rw [exec_ofDec]
  rfl

/-- An increment reaches 0 from 0xFF alone. -/
theorem State.incFlags_eq (s : State) (v : Byte) :
    s.incFlags v = s.setZNH (decide (v = 0xFF#8)) false (decide (v.toNat % 0x10 = 0x0F)) := by
  have hz : v + 1#8 = 0#8 ↔ v = 0xFF#8 := by bv_omega
  simp only [State.incFlags, hz]

/-- A decrement reaches 0 from 0x01 alone. -/
theorem State.decFlags_eq (s : State) (v : Byte) :
    s.decFlags v = s.setZNH (decide (v = 0x01#8)) true (decide (v.toNat % 0x10 = 0x00)) := by
  have hz : v - 1#8 = 0#8 ↔ v = 0x01#8 := by bv_omega
  simp only [State.decFlags, hz]

/-! ## The statements -/

/-- Settles O27: an exclusive or is zero where its operands are equal. -/
theorem xorResultAndFlags : Obligations.XorResultAndFlags := by
  intro src s v hv
  have hz : s.a ^^^ v = 0#8 ↔ s.a = v := BitVec.xor_eq_zero_iff
  simp only [← hz]
  exact next_setReg_setZNHC_spec (r := .a) (exec_ofAlu_of_value .xor hv)

/-- Settles O28: CP writes the flags of a difference without borrow-in and keeps A. -/
theorem cpFlagsOnly : Obligations.CpFlagsOnly := by
  intro src s v hv
  rw [← sub8_false_z]
  exact next_setZNHC_spec (exec_ofAlu_of_value .cp hv)

/-- Settles O29: A holds the sum of `add8`, and F its flags. -/
theorem addAndAdcResultAndFlags : Obligations.AddAndAdcResultAndFlags := by
  intro src s v hv x hx
  obtain ⟨cin, hcin, halu⟩ := s.alu8_add_or_adc v hx
  rw [hcin, ← add8_z, ← add8_r_toNat]
  obtain ⟨t, hexec, ha, rest⟩ := next_setReg_setZNHC_spec (halu ▸ exec_ofAlu_of_value x.1 hv)
  exact ⟨t, hexec, congrArg BitVec.toNat ha, rest⟩

/-- Settles O30: A holds the difference of `sub8`, and F its flags. -/
theorem subAndSbcResultAndFlags : Obligations.SubAndSbcResultAndFlags := by
  intro src s v hv x hx
  obtain ⟨cin, hcin, halu⟩ := s.alu8_sub_or_sbc v hx
  rw [hcin, ← sub8_r]
  obtain ⟨t, hexec, (ha : t.a = _), hz, rest⟩ := next_setReg_setZNHC_spec (halu ▸ exec_ofAlu_of_value x.1 hv)
  exact ⟨t, hexec, ha, by rw [ha]; exact hz, rest⟩

/-- Settles O32: a register's write, then Z, N and H; C is not among the flags written. -/
theorem incDecRegister : Obligations.IncDecRegister := by
  intro r
  refine ⟨ofInc_row r, ofDec_row r, fun s => ⟨next_setReg_setZNH_spec ?_, next_setReg_setZNH_spec ?_⟩⟩
  · rw [exec_ofInc_reg, State.incFlags_eq]
  · rw [exec_ofDec_reg, State.decFlags_eq]

end Sys2Proof.Machine
end

section
/-! The statement of the family 43_alu16.md about INC BC, INC DE and INC HL. First the flags that
INC16_FLAGS asks for: one case per value of the parameter, and what they leave alone under both. -/

namespace Sys2Proof.Machine

/-! ## The flags of a pair increment (R220) -/

/-- Under Doc; an increment reaches 0 from 0xFFFF alone. -/
theorem State.inc16Flags_doc {s : State} (hdoc : s.params.inc16Flags = .doc) (v : Word) :
    s.inc16Flags v = s.setZNH (decide (v = 0xFFFF#16)) false (decide (v.toNat % 0x1000 = 0x0FFF)) := by
  have hz : v + 1#16 = 0#16 ↔ v = 0xFFFF#16 := by bv_omega
  simp only [State.inc16Flags, hdoc, hz]

theorem State.inc16Flags_none {s : State} (hnone : s.params.inc16Flags = .none) (v : Word) :
    s.inc16Flags v = s := by
  simp only [State.inc16Flags, hnone]

/-- Under either value of the parameter F alone is written. -/
theorem State.inc16Flags_eq_withF (s : State) (v : Word) : ∃ f, s.inc16Flags v = { s with f := f } := by
  cases hflags : s.params.inc16Flags with
  | doc => exact ⟨_, State.inc16Flags_doc hflags v⟩
  | none => exact ⟨s.f, State.inc16Flags_none hflags v⟩

@[simp] theorem State.inc16Flags_pairSp (s : State) (v : Word) (p : PairSp) :
    (s.inc16Flags v).pairSp p = s.pairSp p := by
  obtain ⟨f, hf⟩ := s.inc16Flags_eq_withF v
  rw [hf]
  rfl

@[simp] theorem State.inc16Flags_sp (s : State) (v : Word) : (s.inc16Flags v).sp = s.sp :=
  s.inc16Flags_pairSp v .sp

@[simp] theorem State.inc16Flags_pc (s : State) (v : Word) : (s.inc16Flags v).pc = s.pc := by
  obtain ⟨f, hf⟩ := s.inc16Flags_eq_withF v
  rw [hf]

/-! ## The statement -/

/-- INC SP is a row of preset FULL, the other three are rows of DOC (R220, R221). -/
theorem ofIncPair_row {p : PairSp} (hp : p ≠ .sp) :
    RowIs (Instr.ofIncPair p) [BitVec.ofNat 8 (16 * p.code + 3)] .doc := by
  cases p with
  | bc | de | hl => exact ⟨rfl, rfl, rfl⟩
  | sp => exact absurd rfl hp

/-- Settles O36: the pair's write, then the flags that the parameter asks for. -/
theorem incPairFlagsByParameter : Obligations.IncPairFlagsByParameter := by
  intro p hp
  refine ⟨ofIncPair_row hp, fun s => ?_⟩
  have hparams := s.setPairSp_params p (s.pairSp p + 1#16)
  have hframe := s.setPairSp_frame p (s.pairSp p + 1#16)
  refine ⟨(s.setPairSp p (s.pairSp p + 1#16)).inc16Flags (s.pairSp p), ?_, ?_, ?_, ?_,
    fun hdoc => ?_, fun hnone => ?_⟩
  · rw [exec_ofIncPair p hp, incPair]
  · rw [State.inc16Flags_pairSp, State.setPairSp_pairSp]
  · rw [State.inc16Flags_sp, State.setPairSp_sp _ _ hp]
  · rw [State.inc16Flags_pc, State.setPairSp_pc]
  · rw [State.inc16Flags_doc (hparams ▸ hdoc)]
    exact ⟨by simp, by simp, by simp, hframe.reg_then_flags (State.setZNH_frame ..)⟩
  · rw [State.inc16Flags_none (hparams ▸ hnone)]
    exact hframe

end Sys2Proof.Machine
end

section
/-! The statement of the family 45_cb_extended.md about BIT b,r: the operand is read, and only Z, N and H
are written. -/

namespace Sys2Proof.Machine

/-- A meaning that writes Z, N and H and nothing else. -/
theorem next_setZNH_spec {res : Result} {s : State} {z n h : Bool} (hres : res = .next (s.setZNH z n h)) :
    ∃ t, res = .next t ∧ t.flag .z = z ∧ t.flag .n = n ∧ t.flag .h = h
      ∧ t.sp = s.sp ∧ t.pc = s.pc ∧ Frame s t [] [.z, .n, .h] [] :=
  ⟨_, hres, by simp, by simp, by simp, rfl, rfl, s.setZNH_frame z n h⟩

/-- A register's row is of preset DOC, that of (HL) of FULL (R251). -/
theorem ofBit_row (b : Fin 8) (o : Opnd8) :
    RowIs (Instr.ofBit b o) [0xCB#8, opcodeByte 1 b.val o.code] (if o = .atHl then .full else .doc) := by
  cases o with
  | reg r => cases r <;> fin_cases b <;> exact ⟨rfl, rfl, rfl⟩
  | atHl => fin_cases b <;> exact ⟨rfl, rfl, rfl⟩

/-- Settles O41: one read of the operand, which may fault, then Z, N and H. -/
theorem bitTestFlags : Obligations.BitTestFlags := by
  intro b o
  refine ⟨ofBit_row b o, fun s => ?_⟩
  rw [exec_ofBit]
  obtain ⟨readable, unreadable⟩ := s.read8_spec o fun v => .next (s.setZNH (!v.getLsbD b) false true)
  exact ⟨fun v hv => next_setZNH_spec (readable v hv), unreadable⟩

end Sys2Proof.Machine
end

section
/-! The statements of the family 46_control.md about JR and RET. One lemma per shared operation says where
it leaves pc: the signed target of a relative jump, and the word that a return pops. -/

namespace Sys2Proof.Machine

/-! ## Relative jumps -/

/-- The target in the spec's arithmetic: the signed offset added modulo 2^16 (R281). -/
theorem State.jrTarget_eq_ofInt (s : State) (e : Byte) :
    s.jrTarget e = BitVec.ofInt 16 (s.pc.toNat + e.toInt) := by
  rw [BitVec.ofInt_add, BitVec.ofInt_natCast, BitVec.ofNat_toNat, BitVec.setWidth_eq]
  rfl

theorem jumpRelativeIf_eq (cc : Cond) (e : Byte) (s : State) :
    jumpRelativeIf cc e s = .next { s with pc := if s.cond cc = true then s.jrTarget e else s.pc } := by
  unfold jumpRelativeIf
  split <;> rfl

theorem ofJr_row (cc : Cond) (e : Byte) : RowIs (Instr.ofJr cc e) [opcodeByte 0 (4 + cc.code) 0, e] .doc := by
  cases cc <;> exact ⟨rfl, rfl, rfl⟩

/-! ## Returns -/

/-- Everything a return can do (R84, R285). -/
theorem execRet_spec (s : State) :
    (∀ lo hi, s.mem.readByte s.sp = some lo → s.mem.readByte (s.sp + 1#16) = some hi →
      execRet s = .next { s with pc := word hi lo, sp := s.sp + 2#16 })
    ∧ (s.mem.readByte s.sp = none → execRet s = .fault (.unmappedAddress s.sp))
    ∧ (∀ lo, s.mem.readByte s.sp = some lo → s.mem.readByte (s.sp + 1#16) = none →
      execRet s = .fault (.unmappedAddress (s.sp + 1#16))) :=
  s.pop16_spec fun target t => .next (t.setPc target)

theorem ofRet_row (cc : Cond) : RowIs (Instr.ofRet cc) [opcodeByte 3 cc.code 0] .full := by
  cases cc <;> exact ⟨rfl, rfl, rfl⟩

theorem returnIf_true {cc : Cond} {s : State} (h : s.cond cc = true) : returnIf cc s = execRet s := by
  simp [returnIf, execRet, h]

theorem returnIf_false {cc : Cond} {s : State} (h : s.cond cc = false) : returnIf cc s = .next s := by
  simp [returnIf, h]

/-! ## The statements -/

/-- Settles O46: pc is the jump's target where the condition's bit of F says so, and is kept otherwise. -/
theorem relativeJumps : Obligations.RelativeJumps := by
  intro e
  refine ⟨⟨rfl, rfl, rfl⟩, fun s => ?_, fun cc => ⟨ofJr_row cc e, fun s => ?_⟩⟩
  · rw [← State.jrTarget_eq_ofInt]
    rfl
  · rw [exec_ofJr, jumpRelativeIf_eq, ← State.jrTarget_eq_ofInt]
    cases cc <;> rfl

/-- Settles O49: RET cc is RET where its condition holds, and nothing where it fails. -/
theorem returnsPopTheAddress : Obligations.ReturnsPopTheAddress := by
  refine ⟨⟨rfl, rfl, rfl⟩, fun cc => ⟨ofRet_row cc, fun s => ⟨fun hcc => ?_, fun x hx hcond => ?_⟩⟩⟩
  · rw [exec_ofRet, returnIf_false hcc]
  · have hret : exec x.1 s = execRet s := by
      simp only [List.mem_cons, List.not_mem_nil, or_false] at hx
      rcases hx with rfl | rfl
      · rfl
      · rw [exec_ofRet, returnIf_true hcond]
    rw [hret]
    exact execRet_spec s

end Sys2Proof.Machine
end

section
/-! The statements of the family 47_stack.md. What one push and one pop can do, exact next states
included; a pop after a push reads back the two halves that the push stored. -/

namespace Sys2Proof.Machine

/-! ## The pairs of PUSH and POP -/

/-- A byte whose low four bits are clear is unchanged by the mask of a write to AF (R33, R38). -/
theorem and_highNibble_of_low_clear {v : Byte} (h : v &&& 0x0F#8 = 0#8) : v &&& 0xF0#8 = v := by
  calc v &&& 0xF0#8
      = v &&& 0xF0#8 ||| v &&& 0x0F#8 := by rw [h, BitVec.or_zero]
    _ = v &&& (0xF0#8 ||| 0x0F#8) := BitVec.and_or_distrib_left.symm
    _ = v := BitVec.and_allOnes

/-- What a pair reads may be written back to it; for AF only where F's low four bits are clear (R33). -/
theorem State.setPairAf_pairAf {s : State} (p : PairAf) (h : s.f &&& 0x0F#8 = 0#8) :
    s.setPairAf p (s.pairAf p) = s := by
  cases p with
  | bc | de | hl =>
    simp [State.setPairAf, State.pairAf, State.setBc, State.setDe, State.setHl, State.bc, State.de, State.hl]
  | af => simp [State.setPairAf, State.pairAf, State.setAf, State.af, and_highNibble_of_low_clear h]

/-- Writing a pair commutes with the change of memory and SP that a push or a pop makes. -/
theorem State.setPairAf_withMemSp (s : State) (p : PairAf) (v : Word) (m : Memory) (sp : Word) :
    ({ s with mem := m, sp := sp } : State).setPairAf p v = { s.setPairAf p v with mem := m, sp := sp } := by
  cases p <;> rfl

/-! ## Pushes and pops of a pair -/

/-- With the overlay off, or above its range, the overlay does not answer a read (R61). -/
theorem Memory.not_overlay_of_off_or_above {m : Memory} {a : Word}
    (h : m.bootOverlayActive = false ∨ 0x00FF < a.toNat) :
    ¬(m.bootOverlayActive = true ∧ a.toNat ≤ 0x00FF) := by
  rintro ⟨hon, hlow⟩
  rcases h with hoff | habove
  · simp [hoff] at hon
  · omega

/-- Everything a push of a pair can do (R83, R310). -/
theorem pushPair_spec (p : PairAf) (s : State) :
    (s.mem.under (s.sp - 1#16) ≠ none → s.mem.under (s.sp - 2#16) ≠ none →
      ∃ m, MemStored2 s.mem m (s.sp - 1#16) (s.sp - 2#16) (hiByte (s.pairAf p)) (loByte (s.pairAf p))
        ∧ pushPair p s = .next { s with mem := m, sp := s.sp - 2#16 })
    ∧ (s.mem.under (s.sp - 1#16) = none → pushPair p s = .fault (.unmappedAddress (s.sp - 1#16)))
    ∧ (s.mem.under (s.sp - 1#16) ≠ none → s.mem.under (s.sp - 2#16) = none →
      pushPair p s = .fault (.unmappedAddress (s.sp - 2#16))) := by
  obtain ⟨both, first, second⟩ := s.push16_spec (s.pairAf p)
  refine ⟨fun ha hb => ?_, fun ha => first ha _, fun ha hb => second ha hb _⟩
  obtain ⟨m, hm, hpush⟩ := both ha hb
  exact ⟨m, hm, hpush _⟩

/-- Everything a pop of a pair can do (R84, R311). -/
theorem popPair_spec (p : PairAf) (s : State) :
    (∀ lo hi, s.mem.readByte s.sp = some lo → s.mem.readByte (s.sp + 1#16) = some hi →
      popPair p s = .next ((s.setSp (s.sp + 2#16)).setPairAf p (word hi lo)))
    ∧ (s.mem.readByte s.sp = none → popPair p s = .fault (.unmappedAddress s.sp))
    ∧ (∀ lo, s.mem.readByte s.sp = some lo → s.mem.readByte (s.sp + 1#16) = none →
      popPair p s = .fault (.unmappedAddress (s.sp + 1#16))) :=
  s.pop16_spec fun v t => .next (t.setPairAf p v)

/-- A pop of a pair off the two bytes that hold its halves only moves SP past them. -/
theorem popPair_of_halves {p : PairAf} {s : State} {m : Memory} {sp : Word} (hlow : s.f &&& 0x0F#8 = 0#8)
    (hlo : m.readByte sp = some (loByte (s.pairAf p)))
    (hhi : m.readByte (sp + 1#16) = some (hiByte (s.pairAf p))) :
    popPair p { s with mem := m, sp := sp } = .next { s with mem := m, sp := sp + 2#16 } := by
  obtain ⟨both, -, -⟩ := popPair_spec p { s with mem := m, sp := sp }
  rw [both _ _ hlo hhi, word_hiByte_loByte]
  exact congrArg _ ((s.setPairAf_withMemSp ..).trans (by rw [State.setPairAf_pairAf p hlow]))

theorem ofPush_row (p : PairAf) : RowIs (Instr.ofPush p) [BitVec.ofNat 8 (0xC0 + 16 * p.code + 5)] .doc := by
  cases p <;> exact ⟨rfl, rfl, rfl⟩

theorem ofPop_row (p : PairAf) : RowIs (Instr.ofPop p) [BitVec.ofNat 8 (0xC0 + 16 * p.code + 1)] .doc := by
  cases p <;> exact ⟨rfl, rfl, rfl⟩

/-! ## The statements

They stand under `Stack`, since `pushPair` and `popPair` are functions of the model. -/

/-- Settles O51: a push stores the pair's two halves and moves SP, and leaves the registers alone. -/
theorem Stack.pushPair : Obligations.PushPair := by
  refine fun p => ⟨ofPush_row p, fun s => ?_⟩
  rw [exec_ofPush]
  obtain ⟨both, faults⟩ := pushPair_spec p s
  refine ⟨fun ha hb => ?_, faults⟩
  obtain ⟨m, hm, hpush⟩ := both ha hb
  exact ⟨_, hpush, rfl, rfl, hm.writtenA, hm.writtenB, rfl,
    .ofStored2 (fun r _ => by cases r <;> rfl) (fun _ _ => rfl) rfl hm rfl rfl⟩

/-- Settles O52: a pop writes the pair's two halves, AF's low half through the mask of R33. -/
theorem Stack.popPair : Obligations.PopPair := by
  refine fun p => ⟨ofPop_row p, fun s => ?_⟩
  rw [exec_ofPop]
  obtain ⟨both, faults⟩ := popPair_spec p s
  refine ⟨fun lo hi hlo hhi => ?_, faults⟩
  rw [both lo hi hlo hhi]
  cases p <;> simp [State.setPairAf, State.setBc, State.setDe, State.setHl, State.setAf, State.setSp]

/-- Settles O53: the pop reads the two halves that the push stored, the overlay answering neither. -/
theorem Stack.popUndoesPush : Obligations.PopUndoesPush := by
  intro p s hinv ha hb hshown
  obtain ⟨hlow, -, -⟩ := s.inv_iff.1 hinv
  obtain ⟨both, -, -⟩ := pushPair_spec p s
  obtain ⟨m, hm, hpush⟩ := both ha hb
  have hhi : m.readByte (s.sp - 1#16) = some (hiByte (s.pairAf p)) :=
    hm.read_a (Memory.not_overlay_of_off_or_above (hshown.imp_right And.left))
  have hlo : m.readByte (s.sp - 2#16) = some (loByte (s.pairAf p)) :=
    hm.read_b (Memory.not_overlay_of_off_or_above (hshown.imp_right And.right))
  have hsecond : s.sp - 2#16 + 1#16 = s.sp - 1#16 := by bv_omega
  have hback : s.sp - 2#16 + 2#16 = s.sp := BitVec.sub_add_cancel ..
  have hpop := popPair_of_halves (p := p) hlow hlo (by rwa [hsecond])
  rw [hback] at hpop
  rw [exec_ofPush, exec_ofPop]
  exact ⟨_, hpush, m, hpop, fun a hna hnb => ⟨hm.read a hna hnb, hm.under a hna hnb⟩⟩

end Sys2Proof.Machine
end

section
/-! The statements of the family 60_exceptions.md. First what a running core's step is once its opcode
byte is read, and where the fetch of a base row's operands stops. The bytes after the opcode are read
on the switched state, which reads them as the state before it does (`State.switched_read`). -/

namespace Sys2Proof.Machine

/-! ## The step after the opcode fetch -/

/-- After the lead-in a running core fetches the second opcode byte (R103). -/
theorem step_leadIn {s : State} (hrun : s.status = .running) (hread : s.mem.readByte s.pc = some 0xCB#8) :
    step s = (s.switched.setPc (s.pc + 1#16)).fetch8 fun op2 t =>
      if implExt s.params.impl op2 then exec (extRow op2) t
      else .next (t.raiseUnimplemented true op2 s.pc) := by
  rw [step_running hrun, s.fetchInstr_some exec _ hread, if_pos rfl]

/-- After a base opcode that the preset executes, a running core fetches the row's operands (R100). -/
theorem step_implBase {s : State} {op : Byte} (hrun : s.status = .running)
    (hread : s.mem.readByte s.pc = some op) (hop : op ≠ 0xCB#8) (himpl : implBase s.params.impl op = true) :
    step s = (s.switched.setPc (s.pc + 1#16)).fetchOperands (baseRow op) exec := by
  rw [step_running hrun, s.fetchInstr_some exec op hread, if_neg hop, if_pos himpl]

/-! ## Where an operand fetch stops -/

/-- A row with an operand stops at its first operand byte, if that is unmapped (R112, R346). -/
theorem State.fetchOperands_first_unmapped {s : State} {op : Byte} (k : Instr → State → Result)
    (hop : op ≠ 0xCB#8) (hlen : 2 ≤ instrLength op) (hread : s.mem.readByte s.pc = none) :
    s.fetchOperands (baseRow op) k = .fault (.unmappedAddress s.pc) := by
  rw [instrLength, if_neg hop] at hlen
  cases hrow : baseRow op with
  | op i => simp [hrow] at hlen
  | opN f => exact State.fetch8_none _ hread
  | opNN f =>
    obtain ⟨-, low, -⟩ := s.fetch16_spec fun nn t => k (f nn) t
    exact low hread

/-- A row with a 16-bit operand stops at the high byte, if only that is unmapped (R102, R346). -/
theorem State.fetchOperands_second_unmapped {s : State} {op lo : Byte} (k : Instr → State → Result)
    (hop : op ≠ 0xCB#8) (hlen : instrLength op = 3) (hlo : s.mem.readByte s.pc = some lo)
    (hread : s.mem.readByte (s.pc + 1#16) = none) :
    s.fetchOperands (baseRow op) k = .fault (.unmappedAddress (s.pc + 1#16)) := by
  rw [instrLength, if_neg hop] at hlen
  cases hrow : baseRow op with
  | op i => simp [hrow] at hlen
  | opN f => simp [hrow] at hlen
  | opNN f =>
    obtain ⟨-, -, high⟩ := s.fetch16_spec fun nn t => k (f nn) t
    exact high lo hlo hread

/-! ## The statement -/

/-- Settles O7: the opcode fetch, the second byte of the lead-in, then the first and the second operand
byte; each later byte is reached only when the ones before it were read. -/
theorem unmappedFetchFaults : Obligations.UnmappedFetchFaults := by
  intro s op lo hrun
  have first : s.switched.mem.readByte (s.pc + 1#16) = s.mem.readByte (s.pc + 1#16) :=
    s.switched_read 1 (by decide) (by decide)
  have second : s.switched.mem.readByte (s.pc + 2#16) = s.mem.readByte (s.pc + 2#16) :=
    s.switched_read 2 (by decide) (by decide)
  refine ⟨fun hpc => ?_, fun hpc hnone => ?_, fun hpc hop himpl hlen hnone => ?_,
    fun hpc hop himpl hlen hlo hnone => ?_⟩
  · rw [step_running hrun, s.fetchInstr_none exec hpc]
  · rw [step_leadIn hrun hpc]
    exact State.fetch8_none _ (first.trans hnone)
  · rw [step_implBase hrun hpc hop himpl]
    exact State.fetchOperands_first_unmapped _ hop hlen (first.trans hnone)
  · have hnext : s.pc + 1#16 + 1#16 = s.pc + 2#16 := word_add_one_add_one s.pc
    rw [step_implBase hrun hpc hop himpl, ← hnext]
    refine State.fetchOperands_second_unmapped _ hop hlen (first.trans hlo) ?_
    rw [State.setPc_pc, hnext]
    exact second.trans hnone

end Sys2Proof.Machine
end

section
/-! The statement of the family 70_reset_and_hazards.md about the parked loop. The byte after the opcode
is read alike on both sides of the step's own switch (`State.switched_read`), and so is the opcode byte,
but at the one place of log 26; so the step is a jump back to pc, and that byte decides whether the
switched state is parked. -/

namespace Sys2Proof.Machine

/-! ## The step of a jump to itself -/

/-- Of the whole state, the step's own switch writes the latch alone (R75, R100). -/
theorem State.switched_eq_withOverlay (s : State) :
    s.switched = { s with mem :=
      { s.mem with bootOverlayActive := s.mem.bootOverlayActive && !s.atSwitchPoint } } := by
  unfold State.switched
  cases s.atSwitchPoint with
  | true => simp [State.disableBootOverlay]
  | false => simp

theorem implBase_jrE (impl : Impl) : implBase impl 0x18#8 = true := by cases impl <;> rfl

/-- The step of `JR e`: the signed offset is added to the address after both bytes (R100, R281). -/
theorem step_jrE {s : State} {e : Byte} (hrun : s.status = .running) (hop : s.mem.readByte s.pc = some 0x18#8)
    (he : s.mem.readByte (s.pc + 1#16) = some e) :
    step s = .next (s.switched.setPc (s.pc + 2#16 + sext16 e)) := by
  have hsecond : s.switched.mem.readByte (s.pc + 1#16) = some e :=
    (s.switched_read 1 (by decide) (by decide)).trans he
  calc step s
      = (s.switched.setPc (s.pc + 1#16)).fetch8 fun e t => exec (.jrE e) t :=
        step_implBase hrun hop (by decide) (implBase_jrE _)
    _ = exec (.jrE e) (s.switched.setPc (s.pc + 1#16 + 1#16)) := State.fetch8_some _ hsecond
    _ = .next (s.switched.setPc (s.pc + 1#16 + 1#16 + sext16 e)) := rfl
    _ = .next (s.switched.setPc (s.pc + 2#16 + sext16 e)) := by rw [word_add_one_add_one]

/-- The offset 0xFE takes a jump back to its own opcode byte. -/
theorem word_add_two_add_sext16_FE (a : Word) : a + 2#16 + sext16 0xFE#8 = a := by
  have hback : sext16 0xFE#8 = -2#16 := by decide
  rw [hback, BitVec.add_neg_eq_sub, BitVec.add_sub_cancel]

/-- The step of a parked core jumps to its own pc, after the overlay switch (R387). -/
theorem step_parked {s : State} (h : s.parked) : step s = .next s.switched := by
  obtain ⟨hrun, hop, he⟩ := h
  rw [step_jrE hrun hop he, word_add_two_add_sext16_FE, ← s.switched_pc]
  rfl

/-! ## The opcode byte under the switch -/

/-- But at the one place of log 26, the opcode byte reads the same before and after the step's own
switch: the step does not switch, or pc is above the overlay, or the overlay is off already (R390). -/
theorem State.switched_read_pc {s : State} (h : ¬s.parkedUnderTheSwitch) :
    s.switched.mem.readByte s.pc = s.mem.readByte s.pc := by
  unfold State.switched
  split
  next hat =>
    unfold State.atSwitchPoint at hat
    split at hat <;> rw [decide_eq_true_eq] at hat
    next => exact Memory.readByte_high s.mem false s.pc (by rw [hat]; decide)
    next hpoint =>
      have hpc : s.pc = 0x00FF#16 := by bv_omega
      have hoff : s.mem.bootOverlayActive = false :=
        Bool.eq_false_iff.2 fun hon => h ⟨hpoint, hpc, hon⟩
      rw [State.disableBootOverlay_mem, ← hoff]
  next => rfl

/-- At the one place of log 26, the opcode byte after the step's own switch is the cartridge's (R61). -/
theorem State.switched_read_pc_of_parkedUnderTheSwitch {s : State} (h : s.parkedUnderTheSwitch) :
    s.switched.mem.readByte s.pc =
      if 0x00FF < s.mem.cartLen then some (cellsGet s.mem.cart 0x00FF) else none := by
  obtain ⟨hpoint, hpc, -⟩ := h
  have hat : s.atSwitchPoint = true := by simp [State.atSwitchPoint, hpoint, hpc]
  have hoff : s.switched.mem.bootOverlayActive = false := by simp [State.switched_overlay, hat]
  rw [Memory.readByte_under (by simp [hoff]), hpc, Memory.under_cart (by decide), s.switched_eq_withOverlay]
  rfl

/-- The second byte is read alike on both sides of the switch, so the opcode byte alone decides whether
a parked core is parked after it. -/
theorem State.switched_parked_iff {s : State} (h : s.parked) :
    s.switched.parked ↔ s.switched.mem.readByte s.pc = some 0x18#8 := by
  obtain ⟨hrun, -, he⟩ := h
  have hsecond : s.switched.mem.readByte (s.pc + 1#16) = some 0xFE#8 :=
    (s.switched_read 1 (by decide) (by decide)).trans he
  simp [State.parked, State.switched_status, State.switched_pc, hrun, hsecond]

/-! ## The statement -/

/-- Settles O10: the step jumps back to pc on the switched state, and the opcode byte read there decides
whether that state is parked. -/
theorem parkedStepDoesOnlyTheOverlaySwitch : Obligations.ParkedStepDoesOnlyTheOverlaySwitch := by
  intro s h
  refine ⟨step_parked h, ⟨_, s.switched_eq_withOverlay⟩, fun hnot => ?_, fun hunder => ?_⟩
  · have ⟨_, hop, _⟩ := h
    exact (State.switched_parked_iff h).2 ((State.switched_read_pc hnot).trans hop)
  · rw [State.switched_parked_iff h, State.switched_read_pc_of_parkedUnderTheSwitch hunder]
    simp

end Sys2Proof.Machine
end

section
/-! The statements of the family 20_memory.md about words and the host's inspection, and of 41_loads.md
about SP and the accumulator. The address computations are put in the spec's arithmetic here; a form of
LD is then its row and the shared load or store at its address. -/

namespace Sys2Proof.Machine

/-- Settles O14: a word is two byte accesses, and its store reaches the two bytes alone. -/
theorem wordAccessLittleEndian : Obligations.WordAccessLittleEndian := by
  refine ⟨fun s a k => s.loadWord_spec a k, fun s a v => ?_⟩
  obtain ⟨both, faults⟩ := s.storeWord_spec a v
  refine ⟨fun ha hb => ?_, faults⟩
  obtain ⟨m, hm, hstore⟩ := both ha hb
  exact ⟨_, hstore, hm.writtenA, hm.writtenB, rfl, rfl, .ofStored2 (by simp) (by simp) rfl hm rfl rfl⟩

/-- Settles O17: the inspection and a load ask the same router. -/
theorem inspectionReadsThroughTheRouter : Obligations.InspectionReadsThroughTheRouter := by
  refine fun s a => ⟨fun v hread => ⟨?_, fun k => s.load_some k hread⟩,
    fun hread => ⟨?_, fun k => s.load_none k hread⟩, rfl, rfl, rfl, rfl, fun _ => rfl⟩
  · rw [State.inspectByte, hread]
  · rw [State.inspectByte, hread]

/-! ## The addresses -/

theorem highPage_eq (n : Byte) : highPage n = BitVec.ofNat 16 (0xFF00 + n.toNat) := by
  rw [BitVec.ofNat_add, BitVec.ofNat_toNat]
  rfl

/-- SP plus a signed offset is the sum of a relative jump, at SP instead of pc (R160, R224, R281). -/
theorem State.spOffset_eq_ofInt (s : State) (e : Byte) :
    s.spOffset e = BitVec.ofInt 16 (s.sp.toNat + e.toInt) := (s.setPc s.sp).jrTarget_eq_ofInt e

/-! ## The statements -/

/-- Settles O22: each form is the shared load into A at its address. -/
theorem loadAFromAddress : Obligations.LoadAFromAddress := by
  refine fun nn n => ⟨⟨rfl, rfl, rfl⟩, ⟨rfl, rfl, rfl⟩, ⟨rfl, rfl, rfl⟩, ⟨rfl, rfl, rfl⟩, ⟨rfl, rfl, rfl⟩,
    fun s => ?_⟩
  simp only [← highPage_eq, List.forall_mem_cons, List.not_mem_nil, false_imp_iff, implies_true, and_true]
  exact ⟨loadReg_spec s s.bc .a, loadReg_spec s s.de .a, loadReg_spec s nn .a,
    loadReg_spec s (highPage n) .a, loadReg_spec s (highPage s.c) .a⟩

/-- Settles O23: each form is the shared store of A at its address. -/
theorem storeAToAddress : Obligations.StoreAToAddress := by
  refine fun nn n => ⟨⟨rfl, rfl, rfl⟩, ⟨rfl, rfl, rfl⟩, ⟨rfl, rfl, rfl⟩, ⟨rfl, rfl, rfl⟩, ⟨rfl, rfl, rfl⟩,
    fun s => ?_⟩
  simp only [← highPage_eq, List.forall_mem_cons, List.not_mem_nil, false_imp_iff, implies_true, and_true]
  exact ⟨storeNext_spec s s.bc s.a, storeNext_spec s s.de s.a, storeNext_spec s nn s.a,
    storeNext_spec s (highPage n) s.a, storeNext_spec s (highPage s.c) s.a⟩

/-- Settles O24: one word store of SP. -/
theorem storeSpWord : Obligations.StoreSpWord := by
  refine fun nn => ⟨⟨rfl, rfl, rfl⟩, fun s => ?_⟩
  obtain ⟨-, store⟩ := wordAccessLittleEndian
  obtain ⟨both, first, second⟩ := store s nn s.sp
  refine ⟨fun ha hb => ?_, fun ha => first ha .next, fun ha hb => second ha hb .next⟩
  obtain ⟨t, hstore, rest⟩ := both ha hb
  exact ⟨t, hstore .next, rest⟩

/-- What leaves H and L alone leaves HL. -/
theorem Frame.hl {s t : State} {rs : List Reg8} {ks : List Flag} {as : List Word} (h : Frame s t rs ks as)
    (hh : .h ∉ rs) (hl : .l ∉ rs) : t.hl = s.hl := congrArg₂ word (h.regs .h hh) (h.regs .l hl)

theorem exec_ldHlSpE (e : Byte) (s : State) : exec (.ldHlSpE e) s = .next
    ((s.setHl (s.spOffset e)).spOffsetFlags s.sp e) := rfl

/-- Settles O25: a write of SP, and a write of HL with the flags of the low-byte addition. -/
theorem loadSpAndHlSpOffset : Obligations.LoadSpAndHlSpOffset := by
  refine ⟨⟨rfl, rfl, rfl⟩, fun s => ⟨s.setSp s.hl, rfl, rfl, rfl, s.setPairSp_frame .sp s.hl⟩,
    fun e => ⟨⟨rfl, rfl, rfl⟩, fun s => ?_⟩⟩
  rw [← State.spOffset_eq_ofInt]
  obtain ⟨t, hexec, hz, hn, hh, hc, hsp, hpc, hframe⟩ := next_setZNHC_spec (exec_ldHlSpE e s)
  exact ⟨t, hexec, (hframe.hl (by simp) (by simp)).trans (s.setHl_hl _), hz, hn, hh, hc, hsp, hpc,
    (s.setPairSp_frame .hl _).reg_then_flags hframe⟩

end Sys2Proof.Machine
end

section
/-! SUPPORT. An operand read, changed and written back, with the flags last: the one shape of INC (HL),
DEC (HL), the extended shifts, RES and SET (spec/00_scope.md R23; 42_alu8.md R193; 45_cb_extended.md R252
to R261). Everything that shape can do is said here once. -/

namespace Sys2Proof.Machine

/-- One read of the operand, one write of `f` of the byte read, then the flags that `g` writes. -/
def State.modify8 (s : State) (o : Opnd8) (f : Byte → Byte) (g : Byte → State → State) : Result :=
  s.read8 o fun v => s.write8 o (f v) fun t => .next (g v t)

/-- The operand holds the new byte and nothing else has changed when the flags come to be written; or the
first access that is unmapped stops it. -/
theorem State.modify8_spec (s : State) (o : Opnd8) (f : Byte → Byte) (g : Byte → State → State) :
    (∀ v, operandValue s o = some v → operandWritable s o → ∃ t, s.modify8 o f g = .next (g v t)
      ∧ operandHolds s t o (f v) ∧ t.sp = s.sp ∧ t.pc = s.pc ∧ Frame s t (operandRegs o) [] (operandBytes s o))
    ∧ (operandValue s o = none ∨ ¬operandWritable s o → s.modify8 o f g = .fault (.unmappedAddress s.hl)) := by
  obtain ⟨readable, unreadable⟩ := s.read8_spec o fun v => s.write8 o (f v) fun t => .next (g v t)
  refine ⟨fun v hv hw => ?_, fun hfault => ?_⟩
  · obtain ⟨t, hwrite, hholds, hsp, hpc, -, -, hframe⟩ := (s.write8_spec o (f v)).1 hw
    exact ⟨t, (readable v hv).trans (hwrite _), hholds, hsp, hpc, hframe⟩
  · cases hv : operandValue s o with
    | none => exact unreadable hv
    | some v =>
      have hw : ¬operandWritable s o := hfault.resolve_left (by simp [hv])
      exact (readable v hv).trans ((s.write8_spec o (f v)).2 hw _)

/-- A write of flags leaves the operand's new value in place. -/
theorem operandHolds_of_frame {s t u : State} {o : Opnd8} {v : Byte} {ks : List Flag}
    (h : operandHolds s t o v) (hframe : Frame t u [] ks []) : operandHolds s u o v := by
  cases o with
  | reg r => exact (hframe.regs r (by simp)).trans h
  | atHl => exact (hframe.under s.hl (by simp)).trans h

/-- The frame of a change and of the flags' write after it. -/
theorem Frame.then_flags {s t u : State} {rs : List Reg8} {ks : List Flag} {as : List Word}
    (h : Frame s t rs [] as) (h' : Frame t u [] ks []) : Frame s u rs ks as :=
  (h.mono (by simp) (by simp) (by simp)).trans (h'.mono (by simp) (by simp) (by simp))

/-- With Z, N and H written from the byte read. -/
theorem State.modify8_setZNH_spec (s : State) (o : Opnd8) (f : Byte → Byte) (z n h : Byte → Bool) :
    (∀ v, operandValue s o = some v → operandWritable s o →
      ∃ t, s.modify8 o f (fun v t => t.setZNH (z v) (n v) (h v)) = .next t
        ∧ operandHolds s t o (f v)
        ∧ t.flag .z = z v ∧ t.flag .n = n v ∧ t.flag .h = h v
        ∧ t.sp = s.sp ∧ t.pc = s.pc ∧ Frame s t (operandRegs o) [.z, .n, .h] (operandBytes s o))
    ∧ (operandValue s o = none ∨ ¬operandWritable s o →
      s.modify8 o f (fun v t => t.setZNH (z v) (n v) (h v)) = .fault (.unmappedAddress s.hl)) := by
  obtain ⟨done, faults⟩ := s.modify8_spec o f fun v t => t.setZNH (z v) (n v) (h v)
  refine ⟨fun v hv hw => ?_, faults⟩
  obtain ⟨t, hres, hholds, hsp, hpc, hframe⟩ := done v hv hw
  have hflags := t.setZNH_frame (z v) (n v) (h v)
  exact ⟨_, hres, operandHolds_of_frame hholds hflags, by simp, by simp, by simp, hsp, hpc,
    hframe.then_flags hflags⟩

end Sys2Proof.Machine
end

section
/-! The statements of the family 42_alu8.md about the forms of the ALU operations, AND, OR, INC (HL),
DEC (HL), DAA, CPL, SCF and CCF. -/

namespace Sys2Proof.Machine

/-! ## The forms of the ALU operations (R182) -/

/-- XOR and CP are of preset DOC, the other six of FULL (R120, R121). -/
theorem ofAlu_opnd_row (op : AluOp) (o : Opnd8) : RowIs (Instr.ofAlu op (.opnd o))
    [opcodeByte 2 op.code o.code] (if op = .xor ∨ op = .cp then .doc else .full) := by
  cases o with
  | reg r => cases op <;> cases r <;> exact ⟨rfl, rfl, rfl⟩
  | atHl => cases op <;> exact ⟨rfl, rfl, rfl⟩

theorem ofAlu_imm_row (op : AluOp) (n : Byte) : RowIs (Instr.ofAlu op (.imm n))
    [opcodeByte 3 op.code 6, n] (if op = .xor ∨ op = .cp then .doc else .full) := by
  cases op <;> exact ⟨rfl, rfl, rfl⟩

/-- Settles O26: the two forms are rows of the table, and the operand's read is the one access. -/
theorem aluFormsAndOperandFault : Obligations.AluFormsAndOperandFault := by
  refine fun op => ⟨ofAlu_opnd_row op, ofAlu_imm_row op, fun s hread => ?_⟩
  rw [exec_ofAlu, aluOperand]
  exact (s.readAlu_spec (.opnd .atHl) _).2 hread

/-- Settles O31: A's write and the four flags, H alone telling the two operations apart. -/
theorem andOrResultAndFlags : Obligations.AndOrResultAndFlags := by
  intro src s v hv
  simp only [List.forall_mem_cons, List.not_mem_nil, false_imp_iff, implies_true, and_true]
  exact ⟨next_setReg_setZNHC_spec (r := .a) (exec_ofAlu_of_value .and hv),
    next_setReg_setZNHC_spec (r := .a) (exec_ofAlu_of_value .or hv)⟩

/-! ## INC (HL) and DEC (HL) -/

theorem exec_incAtHl (s : State) : exec .incAtHl s = s.modify8 .atHl (· + 1#8) fun v t =>
    t.setZNH (decide (v = 0xFF#8)) false (decide (v.toNat % 0x10 = 0x0F)) := by
  simp only [← State.incFlags_eq]
  rfl

theorem exec_decAtHl (s : State) : exec .decAtHl s = s.modify8 .atHl (· - 1#8) fun v t =>
    t.setZNH (decide (v = 0x01#8)) true (decide (v.toNat % 0x10 = 0x00)) := by
  simp only [← State.decFlags_eq]
  rfl

theorem operandWritable_atHl (s : State) : operandWritable s .atHl ↔ s.mem.under s.hl ≠ none :=
  Option.isSome_iff_ne_none

/-- Settles O33: both change the operand (HL), with the flags of the byte read. -/
theorem incDecAtHl : Obligations.IncDecAtHl := by
  refine ⟨⟨rfl, rfl, rfl⟩, ⟨rfl, rfl, rfl⟩, fun s => ?_⟩
  rw [exec_incAtHl, exec_decAtHl]
  obtain ⟨inc, incFaults⟩ := s.modify8_setZNH_spec .atHl (· + 1#8) (fun v => decide (v = 0xFF#8))
    (fun _ => false) fun v => decide (v.toNat % 0x10 = 0x0F)
  obtain ⟨dec, decFaults⟩ := s.modify8_setZNH_spec .atHl (· - 1#8) (fun v => decide (v = 0x01#8))
    (fun _ => true) fun v => decide (v.toNat % 0x10 = 0x00)
  refine ⟨fun v hv hw => ?_, fun hfault => ?_⟩
  · have hw := (operandWritable_atHl s).2 hw
    exact ⟨inc v hv hw, dec v hv hw⟩
  · have hfault := hfault.imp_right fun hu hw => (operandWritable_atHl s).1 hw hu
    exact ⟨incFaults hfault, decFaults hfault⟩

/-! ## DAA -/

/-- The two adjustments are of different digits, so their union is their sum. -/
theorem toNat_adjustments (low high : Prop) [Decidable low] [Decidable high] :
    ((if low then 0x06#8 else 0#8) ||| (if high then 0x60#8 else 0#8)).toNat
      = (if low then 0x06 else 0) + (if high then 0x60 else 0) := by
  split_ifs <;> rfl

theorem daaAdd_toNat (a : Byte) (h c : Bool) : (daaAdd a h c).1.toNat
    = (a.toNat + (if h = true ∨ 0x09 < a.toNat % 0x10 then 0x06 else 0)
      + (if c = true ∨ 0x99 < a.toNat then 0x60 else 0)) % 0x100 := by
  simp only [daaAdd, Bool.or_eq_true, decide_eq_true_eq]
  rw [BitVec.toNat_add, toNat_adjustments, Nat.add_assoc]

theorem daaSub_toNat (a : Byte) (h c : Bool) : (daaSub a h c).1.toNat
    = (a.toNat + 0x100 - (if h = true then 0x06 else 0) - (if c = true then 0x60 else 0)) % 0x100 := by
  have hle : ((if h = true then 0x06 else 0) + (if c = true then 0x60 else 0) : Nat) ≤ 0x100 := by
    split_ifs <;> decide
  simp only [daaSub]
  rw [BitVec.toNat_sub, toNat_adjustments]
  omega

theorem exec_daa (s : State) : exec .daa s = .next
    ((s.setReg .a (daaResult s.a (s.flag .n) (s.flag .h) (s.flag .c)).1).setZNHC
      (decide ((daaResult s.a (s.flag .n) (s.flag .h) (s.flag .c)).1 = 0#8)) (s.flag .n) false
      (daaResult s.a (s.flag .n) (s.flag .h) (s.flag .c)).2) := rfl

theorem daaResult_toNat (a : Byte) (n h c : Bool) : (daaResult a n h c).1.toNat =
    if n = false then
      (a.toNat + (if h = true ∨ 0x09 < a.toNat % 0x10 then 0x06 else 0)
        + (if c = true ∨ 0x99 < a.toNat then 0x60 else 0)) % 0x100
    else
      (a.toNat + 0x100 - (if h = true then 0x06 else 0) - (if c = true then 0x60 else 0)) % 0x100 := by
  cases n with
  | false => exact daaAdd_toNat a h c
  | true => exact daaSub_toNat a h c

theorem daaResult_carry (a : Byte) (n h c : Bool) :
    (daaResult a n h c).2 = (c || (!n && decide (0x99 < a.toNat))) := by
  cases n with
  | false => rfl
  | true => exact (Bool.or_false c).symm

/-- Settles O34: A and the flags of `daaResult`, N written as it was. -/
theorem Alu8.decimalAdjust : Obligations.DecimalAdjust := by
  refine ⟨⟨rfl, rfl, rfl⟩, fun s => ?_⟩
  rw [← daaResult_toNat, ← daaResult_carry]
  obtain ⟨t, hexec, (ha : t.a = _), hz, hn, hh, hc, hsp, hpc, hframe⟩ := next_setReg_setZNHC_spec (exec_daa s)
  refine ⟨t, hexec, by rw [ha], by rw [hz, ha], hh, hc, hsp, hpc, { hframe with flags := fun k hk => ?_ }⟩
  cases k with
  | n => exact hn
  | z | h | c => simp at hk

/-! ## CPL, SCF and CCF -/

theorem State.setNHC_frame (s : State) (n h c : Bool) : Frame s (s.setNHC n h c) [] [.n, .h, .c] [] :=
  .ofMem (by simp) (fun k hk => by cases k <;> simp_all) (by simp) rfl rfl rfl

/-- A meaning that writes N, H and C and nothing else. -/
theorem next_setNHC_spec {res : Result} {s : State} {n h c : Bool} (hres : res = .next (s.setNHC n h c)) :
    ∃ t, res = .next t ∧ t.flag .n = n ∧ t.flag .h = h ∧ t.flag .c = c
      ∧ t.sp = s.sp ∧ t.pc = s.pc ∧ Frame s t [] [.n, .h, .c] [] :=
  ⟨_, hres, by simp, by simp, by simp, rfl, rfl, s.setNHC_frame n h c⟩

theorem xor_FF_toNat (a : Byte) : (a ^^^ 0xFF#8).toNat = 0xFF - a.toNat := by
  have hnot : a ^^^ 0xFF#8 = ~~~a := BitVec.xor_allOnes
  rw [hnot, BitVec.toNat_not]

/-- Settles O35: A or the carry, then N and H; Z is among the flags of none of the three. -/
theorem cplScfCcf : Obligations.CplScfCcf := by
  refine ⟨⟨rfl, rfl, rfl⟩, ⟨rfl, rfl, rfl⟩, ⟨rfl, rfl, rfl⟩, fun s => ⟨?_, ?_⟩⟩
  · have hframe : Frame (s.setReg .a (s.a ^^^ 0xFF#8))
        (((s.setReg .a (s.a ^^^ 0xFF#8)).setFlag .n true).setFlag .h true) [] [.n, .h] [] :=
      .ofMem (by simp) (fun k hk => by cases k <;> simp_all) (by simp) rfl rfl rfl
    exact ⟨_, rfl, xor_FF_toNat s.a, by simp, by simp, rfl, rfl, (s.setReg_frame .a _).reg_then_flags hframe⟩
  · simp only [List.forall_mem_cons, List.not_mem_nil, false_imp_iff, implies_true, and_true]
    exact ⟨next_setNHC_spec rfl, next_setNHC_spec rfl⟩

end Sys2Proof.Machine
end

section
/-! The statements of the family 43_alu16.md about INC SP, DEC rr, ADD HL,rr and ADD SP,e: a pair's
write, with or without flags after it. -/

namespace Sys2Proof.Machine

theorem ofDecPair_row (p : PairSp) : RowIs (Instr.ofDecPair p) [BitVec.ofNat 8 (16 * p.code + 0x0B)] .full := by
  cases p <;> exact ⟨rfl, rfl, rfl⟩

theorem ofAddHl_row (p : PairSp) : RowIs (Instr.ofAddHl p) [BitVec.ofNat 8 (16 * p.code + 9)] .full := by
  cases p <;> exact ⟨rfl, rfl, rfl⟩

/-- Settles O37: the pair's write and nothing more. -/
theorem incSpAndDecPairWriteNoFlag : Obligations.IncSpAndDecPairWriteNoFlag := by
  refine ⟨⟨rfl, rfl, rfl⟩, fun s => ⟨s.setSp (s.sp + 1#16), rfl, rfl, rfl, s.setPairSp_frame .sp _⟩,
    fun p => ⟨ofDecPair_row p, fun s => ⟨s.setPairSp p (s.pairSp p - 1#16), ?_, s.setPairSp_pairSp p _,
      s.setPairSp_sp _, s.setPairSp_pc p _, s.setPairSp_frame p _⟩⟩⟩
  rw [exec_ofDecPair, decPair]

/-- The sum of two 16-bit values as naturals, truncated, is their sum as words. -/
theorem exec_ofAddHl_eq (p : PairSp) (s : State) : exec (Instr.ofAddHl p) s = .next
    ((s.setHl (s.hl + s.pairSp p)).setNHC false
      (decide (0x0FFF < s.hl.toNat % 0x1000 + (s.pairSp p).toNat % 0x1000))
      (decide (0xFFFF < s.hl.toNat + (s.pairSp p).toNat))) := by
  rw [exec_ofAddHl, addToHl, State.addHl, ← BitVec.add_def]

/-- Settles O38: HL's write, then N, H and C. -/
theorem addHlPair : Obligations.AddHlPair := by
  refine fun p => ⟨ofAddHl_row p, fun s => ?_⟩
  obtain ⟨t, hexec, hn, hh, hc, hsp, hpc, hframe⟩ := next_setNHC_spec (exec_ofAddHl_eq p s)
  exact ⟨t, hexec, (hframe.hl (by simp) (by simp)).trans (s.setHl_hl _), hn, hh, hc, hsp, hpc,
    (s.setPairSp_frame .hl _).reg_then_flags hframe⟩

theorem exec_addSpE (e : Byte) (s : State) : exec (.addSpE e) s = .next
    ((s.setSp (s.spOffset e)).spOffsetFlags s.sp e) := rfl

/-- Settles O39: SP's write, then the flags of the low-byte addition. -/
theorem addSpSignedOffset : Obligations.AddSpSignedOffset := by
  refine fun e => ⟨⟨rfl, rfl, rfl⟩, fun s => ?_⟩
  rw [← State.spOffset_eq_ofInt]
  obtain ⟨t, hexec, hz, hn, hh, hc, hsp, hpc, hframe⟩ := next_setZNHC_spec (exec_addSpE e s)
  exact ⟨t, hexec, hsp, hz, hn, hh, hc, hpc, (s.setPairSp_frame .sp _).reg_then_flags hframe⟩

end Sys2Proof.Machine
end

section
/-! The statements of the families 44_rotate_a.md and 45_cb_extended.md about rotates, shifts, RES and
SET. The results of the rotates and shifts are put in the spec's arithmetic once, for A and for an
operand alike. -/

namespace Sys2Proof.Machine

/-! ## Rotates and shifts as arithmetic (R240 to R243, R252 to R259) -/

/-- The result and the bit shifted out, in the spec's arithmetic. -/
def shiftArith (op : ShiftOp) (v : Byte) (cin : Bool) : Nat × Bool :=
  match op with
  | .rlc => ((2 * v.toNat + v.toNat / 0x80) % 0x100, v.getLsbD 7)
  | .rrc => (v.toNat / 2 + 0x80 * (v.toNat % 2), v.getLsbD 0)
  | .rl => ((2 * v.toNat + cin.toNat) % 0x100, v.getLsbD 7)
  | .rr => (v.toNat / 2 + 0x80 * cin.toNat, v.getLsbD 0)
  | .sla => (2 * v.toNat % 0x100, v.getLsbD 7)
  | .sra => (v.toNat / 2 + 0x80 * (v.toNat / 0x80), v.getLsbD 0)
  | .swap => (0x10 * (v.toNat % 0x10) + v.toNat / 0x10, false)
  | .srl => (v.toNat / 2, v.getLsbD 0)

/-- The model's bit operations compute it, over all bytes and carries. -/
theorem shiftResult_eq (op : ShiftOp) (v : Byte) (cin : Bool) :
    (shiftResult op v cin).1.toNat = (shiftArith op v cin).1
      ∧ (shiftResult op v cin).2 = (shiftArith op v cin).2 := by
  revert v
  cases op <;> cases cin <;> decide

theorem shiftResult_eq_ofNat (op : ShiftOp) (v : Byte) (cin : Bool) :
    (shiftResult op v cin).1 = BitVec.ofNat 8 (shiftArith op v cin).1 := by
  rw [← (shiftResult_eq op v cin).1, BitVec.ofNat_toNat, BitVec.setWidth_eq]

/-- The result is zero as a byte where it is zero as a number. -/
theorem shiftResult_z (op : ShiftOp) (v : Byte) (cin : Bool) :
    decide ((shiftResult op v cin).1 = 0#8) = decide ((shiftArith op v cin).1 = 0) := by
  rw [← (shiftResult_eq op v cin).1]
  exact decide_eq_decide.2 BitVec.toNat_inj.symm

/-! ## The accumulator rotates -/

/-- Everything a rotate of A does (R240 to R243). -/
theorem rotateA_spec (op : ShiftOp) (s : State) : ∃ t, rotateA op s = .next t
    ∧ t.a.toNat = (shiftArith op s.a (s.flag .c)).1 ∧ t.flag .c = (shiftArith op s.a (s.flag .c)).2
    ∧ t.flag .z = false ∧ t.flag .n = false ∧ t.flag .h = false
    ∧ t.sp = s.sp ∧ t.pc = s.pc ∧ Frame s t [.a] [.z, .n, .h, .c] [] := by
  obtain ⟨hresult, hout⟩ := shiftResult_eq op s.a (s.flag .c)
  obtain ⟨t, hexec, (ha : t.a = _), hz, hn, hh, hc, rest⟩ :=
    next_setReg_setZNHC_spec (res := rotateA op s) (r := .a) rfl
  exact ⟨t, hexec, by rw [ha, hresult], by rw [hc, hout], hz, hn, hh, rest⟩

/-- Settles O40: four rotates of A, each the spec's arithmetic on A and the carry. -/
theorem accumulatorRotates : Obligations.AccumulatorRotates := by
  refine ⟨⟨rfl, rfl, rfl⟩, ⟨rfl, rfl, rfl⟩, ⟨rfl, rfl, rfl⟩, ⟨rfl, rfl, rfl⟩, fun s => ?_⟩
  simp only [List.forall_mem_cons, List.not_mem_nil, false_imp_iff, implies_true, and_true]
  exact ⟨rotateA_spec .rlc s, rotateA_spec .rrc s, rotateA_spec .rl s, rotateA_spec .rr s⟩

/-! ## The extended shifts -/

/-- Everything an extended rotate or shift can do (R252 to R259). -/
theorem shiftOperand_spec (op : ShiftOp) (o : Opnd8) (s : State) :
    (∀ v, operandValue s o = some v → operandWritable s o →
      ∃ t, shiftOperand op o s = .next t
        ∧ operandHolds s t o (BitVec.ofNat 8 (shiftArith op v (s.flag .c)).1)
        ∧ t.flag .z = decide ((shiftArith op v (s.flag .c)).1 = 0)
        ∧ t.flag .n = false ∧ t.flag .h = false ∧ t.flag .c = (shiftArith op v (s.flag .c)).2
        ∧ t.sp = s.sp ∧ t.pc = s.pc ∧ Frame s t (operandRegs o) [.z, .n, .h, .c] (operandBytes s o))
    ∧ (operandValue s o = none ∨ ¬operandWritable s o →
      shiftOperand op o s = .fault (.unmappedAddress s.hl)) := by
  simp only [← shiftResult_eq_ofNat, ← shiftResult_z, ← (shiftResult_eq op _ _).2]
  obtain ⟨done, faults⟩ := s.modify8_spec o (fun v => (shiftResult op v (s.flag .c)).1)
    fun v t => t.shiftFlags (shiftResult op v (s.flag .c))
  refine ⟨fun v hv hw => ?_, faults⟩
  obtain ⟨t, hexec, hholds, hsp, hpc, hframe⟩ := done v hv hw
  have hflags : Frame t (t.shiftFlags (shiftResult op v (s.flag .c))) [] [.z, .n, .h, .c] [] :=
    t.setZNHC_frame ..
  exact ⟨_, hexec, operandHolds_of_frame hholds hflags, t.setZNHC_flag .., t.setZNHC_flag ..,
    t.setZNHC_flag .., t.setZNHC_flag .., hsp, hpc, hframe.then_flags hflags⟩

/-- RL on a register is the one shift of preset DOC (R120). -/
theorem ofShift_rl_row (o : Opnd8) :
    RowIs (Instr.ofShift .rl o) [0xCB#8, opcodeByte 0 2 o.code] (if o = .atHl then .full else .doc) := by
  cases o with
  | reg r => cases r <;> exact ⟨rfl, rfl, rfl⟩
  | atHl => exact ⟨rfl, rfl, rfl⟩

theorem ofShift_row {op : ShiftOp} (hop : op ≠ .rl) (o : Opnd8) :
    RowIs (Instr.ofShift op o) [0xCB#8, opcodeByte 0 op.code o.code] .full := by
  cases op with
  | rl => exact absurd rfl hop
  | rlc | rrc | rr | sla | sra | swap | srl =>
    cases o with
    | reg r => cases r <;> exact ⟨rfl, rfl, rfl⟩
    | atHl => exact ⟨rfl, rfl, rfl⟩

/-- Settles O42: the shifted byte is truncated to 8 bits, and the bit shifted out is its sign bit. -/
theorem rotateLeftThroughCarry : Obligations.RotateLeftThroughCarry := by
  refine fun o => ⟨ofShift_rl_row o, fun s => ?_⟩
  rw [exec_ofShift]
  obtain ⟨done, faults⟩ := shiftOperand_spec .rl o s
  refine ⟨fun v hv hw => ?_, faults⟩
  have htrunc : BitVec.ofNat 8 (2 * v.toNat + (s.flag .c).toNat)
      = BitVec.ofNat 8 (shiftArith .rl v (s.flag .c)).1 :=
    BitVec.eq_of_toNat_eq (by simp [shiftArith])
  have hout : decide (0x80 ≤ v.toNat) = (shiftArith .rl v (s.flag .c)).2 := v.msb_eq_decide.symm
  rw [htrunc, hout]
  exact done v hv hw

/-- Settles O43: each row of the table is the shift's arithmetic. -/
theorem extendedShifts : Obligations.ExtendedShifts := by
  refine fun op hop o => ⟨ofShift_row hop o, fun s => ?_⟩
  rw [exec_ofShift]
  obtain ⟨done, faults⟩ := shiftOperand_spec op o s
  refine ⟨fun v res out hv hw hrow => ?_, faults⟩
  have harith : shiftArith op v (s.flag .c) = (res, out) := by
    simp only [List.mem_cons, Prod.mk.injEq, List.not_mem_nil, or_false] at hrow
    rcases hrow with ⟨rfl, rfl, rfl⟩ | ⟨rfl, rfl, rfl⟩ | ⟨rfl, rfl, rfl⟩ | ⟨rfl, rfl, rfl⟩ |
      ⟨rfl, rfl, rfl⟩ | ⟨rfl, rfl, rfl⟩ | ⟨rfl, rfl, rfl⟩ <;> rfl
  have hdone := done v hv hw
  rwa [harith] at hdone

/-! ## RES and SET -/

theorem ofRes_row (b : Fin 8) (o : Opnd8) :
    RowIs (Instr.ofRes b o) [0xCB#8, opcodeByte 2 b.val o.code] .full := by
  cases o with
  | reg r => cases r <;> fin_cases b <;> exact ⟨rfl, rfl, rfl⟩
  | atHl => fin_cases b <;> exact ⟨rfl, rfl, rfl⟩

theorem ofSet_row (b : Fin 8) (o : Opnd8) :
    RowIs (Instr.ofSet b o) [0xCB#8, opcodeByte 3 b.val o.code] .full := by
  cases o with
  | reg r => cases r <;> fin_cases b <;> exact ⟨rfl, rfl, rfl⟩
  | atHl => fin_cases b <;> exact ⟨rfl, rfl, rfl⟩

/-- The byte with one bit written (R260, R261). -/
def withBit (v : Byte) (b : Fin 8) (x : Bool) : Byte :=
  if x then v ||| 1#8 <<< b.val else v &&& ~~~(1#8 <<< b.val)

theorem withBit_getLsbD (v : Byte) (b : Fin 8) (x : Bool) (j : Nat) :
    (withBit v b x).getLsbD j = if j = b.val then x else v.getLsbD j := by
  have hb := b.isLt
  rw [withBit, ← BitVec.twoPow_eq]
  cases x with
  | false =>
    by_cases hj : j = b.val
    · simp [hj]
    · simpa [hj, Ne.symm hj, BitVec.getLsbD_twoPow] using BitVec.lt_of_getLsbD
  | true =>
    by_cases hj : j = b.val
    · simp [hj]
    · simp [hj, Ne.symm hj, BitVec.getLsbD_twoPow]

/-- RES and SET are one change of the operand (R260, R261). -/
theorem exec_ofRes_or_ofSet (b : Fin 8) (o : Opnd8) {x : Instr × Bool}
    (hx : x ∈ [(Instr.ofRes b o, false), (Instr.ofSet b o, true)]) (s : State) :
    exec x.1 s = s.modify8 o (fun v => withBit v b x.2) fun _ t => t := by
  simp only [List.mem_cons, List.not_mem_nil, or_false] at hx
  rcases hx with rfl | rfl
  · rw [exec_ofRes]
    rfl
  · rw [exec_ofSet]
    rfl

/-- Settles O44: bit `b` of the byte written is the one asked for, and no flag is written. -/
theorem resetAndSetBit : Obligations.ResetAndSetBit := by
  refine fun b o => ⟨ofRes_row b o, ofSet_row b o, fun s x hx => ?_⟩
  rw [exec_ofRes_or_ofSet b o hx]
  obtain ⟨done, faults⟩ := s.modify8_spec o (fun v => withBit v b x.2) fun _ t => t
  refine ⟨fun v hv hw => ?_, faults⟩
  obtain ⟨t, hexec, hholds, rest⟩ := done v hv hw
  exact ⟨t, withBit v b x.2, hexec, hholds, (withBit_getLsbD ..).trans (if_pos rfl),
    fun j hj => (withBit_getLsbD ..).trans (if_neg hj), rest⟩

/-! ## The lead-in -/

/-- The lead-in's rule by fields is the extended row's own (R103, R115). -/
theorem extOperation_eq_exec (b : Byte) (s : State) : extOperation b s = exec (extRow b) s := by
  have hlt := (xField b).isLt
  have hx : (xField b).toNat = 0 ∨ (xField b).toNat = 1 ∨ (xField b).toNat = 2 ∨ (xField b).toNat = 3 := by omega
  rcases hx with hx | hx | hx | hx
  · simp only [extOperation, extRow, hx, exec_ofShift]
  · simp only [extOperation, extRow, hx, exec_ofBit]
  · simp only [extOperation, extRow, hx, exec_ofRes]
  · simp only [extOperation, extRow, hx, exec_ofSet]

theorem exec_cbPrefix_of_impl {b : Byte} {s : State} (h : implExt s.params.impl b = true) :
    exec (.cbPrefix b) s = exec (extRow b) s := (if_pos h).trans (extOperation_eq_exec b s)

theorem exec_cbPrefix_of_not_impl {b : Byte} {s : State} (h : implExt s.params.impl b = false) :
    exec (.cbPrefix b) s = .next (s.raiseUnimplemented true b (s.pc - 2#16)) := if_neg (by simp [h])

/-- With its operand readable and writable, an extended row answers a next state. -/
theorem extOperation_next {b : Byte} {s : State} {v : Byte} (hv : operandValue s (reg8Field (zField b)) = some v)
    (hw : operandWritable s (reg8Field (zField b))) :
    ∃ t, extOperation b s = .next t ∧ t.sp = s.sp ∧ t.pc = s.pc ∧ t.status = s.status := by
  unfold extOperation
  split
  · obtain ⟨t, hexec, -, -, -, -, -, hsp, hpc, hframe⟩ := (shiftOperand_spec (shiftField (yField b)) _ s).1 v hv hw
    exact ⟨t, hexec, hsp, hpc, hframe.status⟩
  · exact ⟨_, (s.read8_spec _ _).1 v hv, rfl, rfl, rfl⟩
  · obtain ⟨t, hexec, -, hsp, hpc, hframe⟩ :=
      (s.modify8_spec _ (fun v => withBit v (yField b).toFin false) fun _ t => t).1 v hv hw
    exact ⟨t, hexec, hsp, hpc, hframe.status⟩
  · obtain ⟨t, hexec, -, hsp, hpc, hframe⟩ :=
      (s.modify8_spec _ (fun v => withBit v (yField b).toFin true) fun _ t => t).1 v hv hw
    exact ⟨t, hexec, hsp, hpc, hframe.status⟩

/-- The z field is the opcode byte modulo 8, and 6 alone names (HL) (R23, R110). -/
theorem mod_eight_of_reg8Field_atHl {b : Byte} (h : reg8Field (zField b) = .atHl) : b.toNat % 8 = 6 := by
  have hcode : ∀ z : BitVec 3, reg8Field z = .atHl → z.toNat = 6 := by decide
  calc b.toNat % 8 = (zField b).toNat := by simp [zField]
    _ = 6 := hcode _ h

/-- Settles O45: the lead-in runs the extended row or raises, and only (HL) can stop a row. -/
theorem leadInRunsExtendedRow : Obligations.LeadInRunsExtendedRow := by
  refine fun b s => ⟨exec_cbPrefix_of_impl, exec_cbPrefix_of_not_impl, fun himpl hoperand => ?_⟩
  rw [exec_cbPrefix_of_impl himpl, ← extOperation_eq_exec]
  cases ho : reg8Field (zField b) with
  | reg r => exact extOperation_next (v := s.reg r) (by rw [ho]; rfl) (by rw [ho]; trivial)
  | atHl =>
    obtain ⟨hread, hunder⟩ := hoperand.resolve_left (absurd (mod_eight_of_reg8Field_atHl ho))
    obtain ⟨v, hv⟩ := Option.ne_none_iff_exists'.1 hread
    exact extOperation_next (by rw [ho]; exact hv) (by rw [ho]; exact (operandWritable_atHl s).2 hunder)

end Sys2Proof.Machine
end

section
/-! The statements of the family 46_control.md about absolute jumps and about a call's return. -/

namespace Sys2Proof.Machine

theorem jumpIf_eq (cc : Cond) (nn : Word) (s : State) :
    jumpIf cc nn s = .next { s with pc := if s.cond cc = true then nn else s.pc } := by
  unfold jumpIf
  split <;> rfl

theorem ofJp_row (cc : Cond) (nn : Word) :
    RowIs (Instr.ofJp cc nn) [opcodeByte 3 cc.code 2, nn.extractLsb' 0 8, nn.extractLsb' 8 8] .full := by
  cases cc <;> exact ⟨rfl, rfl, rfl⟩

/-- Settles O47: a jump writes pc, under its condition if it has one. -/
theorem absoluteJumps : Obligations.AbsoluteJumps := by
  refine ⟨⟨rfl, rfl, rfl⟩, fun _ => rfl, fun nn => ⟨⟨rfl, rfl, rfl⟩, fun _ => rfl,
    fun cc => ⟨ofJp_row cc nn, fun s => ?_⟩⟩⟩
  rw [exec_ofJp, jumpIf_eq]

/-- Settles O50: the return reads the two halves of pc that the call stored, the overlay answering
neither. -/
theorem returnUndoesCall : Obligations.ReturnUndoesCall := by
  intro s nn ret ha hb hshown
  obtain ⟨both, -, -⟩ := s.push16_spec s.pc
  obtain ⟨m, hm, hpush⟩ := both ha hb
  have hhi : m.readByte (s.sp - 1#16) = some (hiByte s.pc) :=
    hm.read_a (Memory.not_overlay_of_off_or_above (hshown.imp_right And.left))
  have hlo : m.readByte (s.sp - 2#16) = some (loByte s.pc) :=
    hm.read_b (Memory.not_overlay_of_off_or_above (hshown.imp_right And.right))
  have hsecond : s.sp - 2#16 + 1#16 = s.sp - 1#16 := by bv_omega
  have hback : s.sp - 2#16 + 2#16 = s.sp := BitVec.sub_add_cancel ..
  obtain ⟨returns, -, -⟩ := execRet_spec { s with mem := m, sp := s.sp - 2#16, pc := ret }
  refine ⟨_, hpush _, rfl, _, returns _ _ hlo (by rwa [hsecond]), word_hiByte_loByte s.pc, hback, ?_⟩
  exact .ofStored2 (fun r _ => by cases r <;> rfl) (fun _ _ => rfl) rfl hm rfl rfl

end Sys2Proof.Machine
end

section
/-! The statements of the family 48_misc.md. -/

namespace Sys2Proof.Machine

/-- Settles O54. -/
theorem nopChangesNothing : Obligations.NopChangesNothing := ⟨⟨rfl, rfl, rfl⟩, fun _ => rfl⟩

/-- Settles O55: each of the sixteen is `raiseBase` of its own byte. -/
theorem refusedOpcodesRaise : Obligations.RefusedOpcodesRaise := by
  intro x hx
  have hraise : RowIs x.1 [x.2] .refused ∧ exec x.1 = raiseBase x.2 := by
    simp only [List.mem_cons, List.not_mem_nil, or_false] at hx
    rcases hx with rfl | rfl | rfl | rfl | rfl | rfl | rfl | rfl | rfl | rfl | rfl | rfl | rfl | rfl | rfl | rfl <;>
      exact ⟨⟨rfl, rfl, rfl⟩, rfl⟩
  exact ⟨hraise.1, fun s => congrFun hraise.2 s⟩

end Sys2Proof.Machine
end

section
/-! The statements of the families 10_state.md, 30_encoding.md, 60_exceptions.md and
70_reset_and_hazards.md about the state after construction, the decoder's words and the whole step. -/

namespace Sys2Proof.Machine

/-! ## The state after construction -/

/-- Settles O57: F is masked, the cells of the images are canonical, and the latch is on exactly over a
boot image. -/
theorem constructHasInvariant : Obligations.ConstructHasInvariant := by
  have holds (p : Params) (r : RegInit) (boot rom : List Byte) : (State.construct p r boot rom).inv = true := by
    have hlow : r.f &&& 0xF0#8 &&& 0x0F#8 = 0#8 := by rw [BitVec.and_assoc]; exact BitVec.and_zero
    exact (State.inv_iff _).2 ⟨hlow, Memory.construct_wf p r boot rom, id⟩
  exact ⟨holds, holds _ _ _ _⟩

theorem bootPresent_eq (boot : List Byte) : bootPresent boot = decide (0 < boot.length) := by
  cases boot <;> rfl

/-- Video RAM, the I/O region and high RAM read 0x00 after construction (R48). -/
theorem readByte_construct (p : Params) (r : RegInit) (boot rom : List Byte) {a : Word} (hlo : 0x8000 ≤ a.toNat)
    (hmid : a.toNat ≤ 0x9FFF ∨ 0xFF00 ≤ a.toNat) (hhi : a.toNat ≤ 0xFFFE) :
    (State.construct p r boot rom).mem.readByte a = some 0x00#8 := by
  rw [Memory.readByte_under (by omega)]
  rcases hmid with hvram | hhigh
  · exact Memory.under_vram hlo hvram
  · rcases Nat.lt_or_ge a.toNat 0xFF80 with hio | hhram
    · exact Memory.under_io hhigh (by omega)
    · exact Memory.under_hram hhram hhi

/-- Settles O58, field by field. -/
theorem constructResetValues : Obligations.ConstructResetValues := by
  intro p r boot rom
  refine ⟨rfl, ?_, bootPresent_eq boot, rfl, rfl, rfl, fun k v hv => ?_,
    fun a hlo hmid hhi => readByte_construct p r boot rom hlo hmid hhi, rfl, rfl⟩
  · cases boot <;> rfl
  · have hcell : cellsGet (cellsFrom 0 rom) (0 + k) = rom[k]?.getD 0#8 := cellsGet_cellsFrom 0 k rom
    rwa [Nat.zero_add, hv] at hcell

/-! ## The decoder's words -/

/-- Settles O1, by running the decoder on each word. -/
theorem sampleWordsDecode : Obligations.SampleWordsDecode :=
  ⟨rfl, rfl, rfl, rfl, rfl, rfl, rfl, rfl, rfl, rfl, rfl, rfl, rfl, rfl, rfl, rfl, rfl, rfl, rfl, rfl⟩

/-! ## The whole step -/

/-- Settles O8. -/
theorem faultedCoreHasNoStep : Obligations.FaultedCoreHasNoStep := by
  intro s e hstatus
  rw [step, hstatus]

/-- Settles O59: an instruction runs or raises, and both of its ends are among the two. -/
theorem execStopsOnlyAtUnmappedAddresses : Obligations.ExecStopsOnlyAtUnmappedAddresses := by
  intro i s
  rcases exec_runsOrRaises i s with (⟨t, hexec, -, -⟩ | hfault) | ⟨x, op, a, hexec⟩
  · exact .inl ⟨t, hexec⟩
  · exact .inr hfault
  · exact .inl ⟨_, hexec⟩

/-- Settles O6: the preset's test fails after the opcode byte, or after both bytes, and the step raises. -/
theorem unimplementedOpcodeState : Obligations.UnimplementedOpcodeState := by
  intro s op op2 hrun hread
  refine ⟨fun hop himpl => ?_, fun hop hread2 himpl => ?_⟩
  · rw [step_running hrun, s.fetchInstr_some exec op hread, if_neg hop, if_neg (by simp [himpl])]
    rfl
  · subst hop
    have hsecond : s.switched.mem.readByte (s.pc + 1#16) = some op2 :=
      (s.switched_read 1 (by decide) (by decide)).trans hread2
    rw [step_leadIn hrun hread, State.fetch8_some _ hsecond, if_neg (by simp [himpl]), State.setPc_pc,
      word_add_one_add_one]
    rfl

/-- Operand bytes that decode in a base row are what the operand fetch reads (R102, R112). -/
theorem State.fetchOperands_decoded {s : State} {row : Row} {bs : List Byte} {i : Instr}
    (k : Instr → State → Result) (hdecode : decodeOperands row bs = .ok (i, []))
    (hread : ∀ n v, n < 2 → bs[n]? = some v → s.mem.readByte (s.pc + BitVec.ofNat 16 n) = some v) :
    s.fetchOperands row k = k i (s.setPc (s.pc + BitVec.ofNat 16 bs.length)) := by
  match row, bs with
  | .op i, rest =>
    cases hdecode
    have hpc : s.pc + 0#16 = s.pc := BitVec.add_zero _
    exact congrArg (fun pc => k i (s.setPc pc)) hpc.symm
  | .opN f, n :: rest =>
    cases hdecode
    exact State.fetch8_some _ (by simpa using hread 0 n (by decide) rfl)
  | .opNN f, lo :: hi :: rest =>
    cases hdecode
    obtain ⟨both, -, -⟩ := s.fetch16_spec fun nn t => k (f nn) t
    exact both lo hi (by simpa using hread 0 lo (by decide) rfl) (hread 1 hi (by decide) rfl)
  | .opN _, [] | .opNN _, [] | .opNN _, [_] => cases hdecode

theorem word_add_one_add_ofNat (a : Word) (n : Nat) :
    a + 1#16 + BitVec.ofNat 16 n = a + BitVec.ofNat 16 (n + 1) := by
  rw [BitVec.add_assoc, ← BitVec.ofNat_add, Nat.add_comm]

/-- The two bytes that may follow the opcode are the same on the switched state (R390). -/
theorem State.switched_read_after_opcode {s : State} {op : Byte} {rest : List Byte}
    (hread : ∀ k v, (op :: rest)[k]? = some v → s.mem.readByte (s.pc + BitVec.ofNat 16 k) = some v)
    (n : Nat) (v : Byte) (hn : n < 2) (hv : rest[n]? = some v) :
    s.switched.mem.readByte (s.pc + 1#16 + BitVec.ofNat 16 n) = some v := by
  rw [word_add_one_add_ofNat, s.switched_read (n + 1) (by omega) (by omega)]
  exact hread (n + 1) v hv

/-- Settles O5: the bytes after the opcode are read on the switched state; the preset's test and the
decoder look at the same bytes. -/
theorem stepRunsDecodedInstruction : Obligations.StepRunsDecodedInstruction := by
  intro s bs i hrun hdecode himpl hread
  have hencode : encode i = bs := by simpa using (encodeOfDecode bs i [] hdecode).2
  rw [Instr.implemented, hencode] at himpl
  match bs with
  | [] => cases hdecode
  | op :: rest =>
    have hop : s.mem.readByte s.pc = some op := by simpa using hread 0 op rfl
    have hrest := State.switched_read_after_opcode hread
    by_cases hcb : op = 0xCB#8
    · subst hcb
      match rest with
      | [] => cases hdecode
      | op2 :: _ =>
        cases hdecode
        rw [implementedBytes_ext] at himpl
        have hsecond : s.switched.mem.readByte (s.pc + 1#16) = some op2 := by
          simpa using hrest 0 op2 (by decide) rfl
        rw [step_leadIn hrun hop, State.fetch8_some _ hsecond, if_pos himpl, State.setPc_pc,
          word_add_one_add_one]
        rfl
    · rw [implementedBytes_base _ hcb] at himpl
      rw [step_implBase hrun hop hcb himpl,
        State.fetchOperands_decoded exec ((decode_base hcb rest).symm.trans hdecode) hrest,
        State.setPc_pc, word_add_one_add_ofNat]
      rfl

end Sys2Proof.Machine
end
